-- ==== Sys2Proof/Word.lean ====
section
/-! DEFINITION. The word types of the LR35902 core block and the type of a sparse byte array. -/

namespace Sys2Proof

/-- One byte: the only width the bus moves (20_memory.md R82). -/
abbrev Byte := BitVec 8

/-- A 16-bit quantity: a register pair, SP, PC or an address (10_state.md R21, R22, R24). -/
abbrev Word := BitVec 16

/-- A byte array owned by one component (10_state.md R37), sparse: (offset, byte) pairs, offsets
strictly rising, no entry equal to what an unlisted offset reads as (`Memory.wf`). -/
abbrev Memory := List Host.Cell

/-- The bit index of BIT, RES and SET: field y of the second byte (30_encoding.md R103). -/
abbrev BitIndex := BitVec 3

end Sys2Proof
end

