-- ==== Sys2Proof/Machine/Bits.lean ====
section
/-! DEFINITION. Byte order, sign extension and bit-field helpers. -/

namespace Sys2Proof

/-- `{hi, lo}` (00_scope.md R9): the pair whose high half is `hi`. -/
def join (hi lo : Byte) : Word := hi ++ lo

/-- Bits 15:8 of a 16-bit value. -/
def hiByte (w : Word) : Byte := w.extractLsb' 8 8

/-- Bits 7:0 of a 16-bit value. -/
def loByte (w : Word) : Byte := w.extractLsb' 0 8

/-- `sext_16(v)` (00_scope.md R10). -/
def sext16 (v : Byte) : Word := v.signExtend 16

/-- The address `0xFF00 + n` of the high-page loads (30_encoding.md R103). -/
def highPage (n : Byte) : Word := 0xFF00 + n.setWidth 16

/-- `1 << b` as a byte (44_rotate_shift_bit.md R264, R266). -/
def bitMask (b : BitIndex) : Byte := 1#8 <<< b.toNat

end Sys2Proof
end

