-- ==== Sys2Proof/Syntax.lean ====
section
/-! DEFINITION. The instructions of the LR35902: one constructor per mnemonic of spec/opcode_table.json
(30_encoding.md R109 to R113, R119). An operand in parentheses is spelled At (LD (HL+),A is
`ldAtHlIncA`); the eleven illegal bytes are one constructor that carries the byte (R114); STOP carries
its pad byte (R302); the prefix 0xCB taken alone is `prefixCb` (R245, log 13). -/

namespace Sys2Proof

/-- One instruction with its immediates (30_encoding.md R103): `n` an unsigned byte, `nn` an unsigned
word, `e` the byte of a signed displacement, `b` a bit index. -/
inductive Instr where
  -- 8-bit loads, with an operand field
  | ldBN (n : Byte)
  | ldCN (n : Byte)
  | ldDN (n : Byte)
  | ldEN (n : Byte)
  | ldHN (n : Byte)
  | ldLN (n : Byte)
  | ldAtHlN (n : Byte)
  | ldAN (n : Byte)
  | ldhAtNA (n : Byte)
  | ldAtNnA (nn : Word)
  | ldhAAtN (n : Byte)
  | ldAAtNn (nn : Word)
  -- 16-bit loads and the stack, with an operand field
  | ldBcNn (nn : Word)
  | ldAtNnSp (nn : Word)
  | ldDeNn (nn : Word)
  | ldHlNn (nn : Word)
  | ldSpNn (nn : Word)
  | ldHlSpE (e : Byte)
  -- 8-bit arithmetic and logic, with an operand field
  | addAN (n : Byte)
  | adcAN (n : Byte)
  | subN (n : Byte)
  | sbcAN (n : Byte)
  | andN (n : Byte)
  | xorN (n : Byte)
  | orN (n : Byte)
  | cpN (n : Byte)
  -- 16-bit arithmetic, with an operand field
  | addSpE (e : Byte)
  -- bit test, reset and set, with an operand field
  | bitB (b : BitIndex)
  | bitC (b : BitIndex)
  | bitD (b : BitIndex)
  | bitE (b : BitIndex)
  | bitH (b : BitIndex)
  | bitL (b : BitIndex)
  | bitAtHl (b : BitIndex)
  | bitA (b : BitIndex)
  | resB (b : BitIndex)
  | resC (b : BitIndex)
  | resD (b : BitIndex)
  | resE (b : BitIndex)
  | resH (b : BitIndex)
  | resL (b : BitIndex)
  | resAtHl (b : BitIndex)
  | resA (b : BitIndex)
  | setB (b : BitIndex)
  | setC (b : BitIndex)
  | setD (b : BitIndex)
  | setE (b : BitIndex)
  | setH (b : BitIndex)
  | setL (b : BitIndex)
  | setAtHl (b : BitIndex)
  | setA (b : BitIndex)
  -- jumps, calls, returns, restarts, with an operand field
  | jrE (e : Byte)
  | jrNzE (e : Byte)
  | jrZE (e : Byte)
  | jrNcE (e : Byte)
  | jrCE (e : Byte)
  | jpNzNn (nn : Word)
  | jpNn (nn : Word)
  | callNzNn (nn : Word)
  | jpZNn (nn : Word)
  | callZNn (nn : Word)
  | callNn (nn : Word)
  | jpNcNn (nn : Word)
  | callNcNn (nn : Word)
  | jpCNn (nn : Word)
  | callCNn (nn : Word)
  -- NOP, HALT, STOP, DI, EI and the illegal bytes, with an operand field
  | stop (pad : Byte)
  | illegal (op : Byte)
  -- 8-bit loads, without
  | ldAtBcA
  | ldAAtBc
  | ldAtDeA
  | ldAAtDe
  | ldAtHlIncA
  | ldAAtHlInc
  | ldAtHlDecA
  | ldAAtHlDec
  | ldBB
  | ldBC
  | ldBD
  | ldBE
  | ldBH
  | ldBL
  | ldBAtHl
  | ldBA
  | ldCB
  | ldCC
  | ldCD
  | ldCE
  | ldCH
  | ldCL
  | ldCAtHl
  | ldCA
  | ldDB
  | ldDC
  | ldDD
  | ldDE
  | ldDH
  | ldDL
  | ldDAtHl
  | ldDA
  | ldEB
  | ldEC
  | ldED
  | ldEE
  | ldEH
  | ldEL
  | ldEAtHl
  | ldEA
  | ldHB
  | ldHC
  | ldHD
  | ldHE
  | ldHH
  | ldHL
  | ldHAtHl
  | ldHA
  | ldLB
  | ldLC
  | ldLD
  | ldLE
  | ldLH
  | ldLL
  | ldLAtHl
  | ldLA
  | ldAtHlB
  | ldAtHlC
  | ldAtHlD
  | ldAtHlE
  | ldAtHlH
  | ldAtHlL
  | ldAtHlA
  | ldAB
  | ldAC
  | ldAD
  | ldAE
  | ldAH
  | ldAL
  | ldAAtHl
  | ldAA
  | ldhAtCA
  | ldhAAtC
  -- 16-bit loads and the stack, without
  | popBc
  | pushBc
  | popDe
  | pushDe
  | popHl
  | pushHl
  | popAf
  | pushAf
  | ldSpHl
  -- 8-bit arithmetic and logic, without
  | incB
  | decB
  | incC
  | decC
  | incD
  | decD
  | incE
  | decE
  | incH
  | decH
  | daa
  | incL
  | decL
  | cpl
  | incAtHl
  | decAtHl
  | scf
  | incA
  | decA
  | ccf
  | addAB
  | addAC
  | addAD
  | addAE
  | addAH
  | addAL
  | addAAtHl
  | addAA
  | adcAB
  | adcAC
  | adcAD
  | adcAE
  | adcAH
  | adcAL
  | adcAAtHl
  | adcAA
  | subB
  | subC
  | subD
  | subE
  | subH
  | subL
  | subAtHl
  | subA
  | sbcAB
  | sbcAC
  | sbcAD
  | sbcAE
  | sbcAH
  | sbcAL
  | sbcAAtHl
  | sbcAA
  | andB
  | andC
  | andD
  | andE
  | andH
  | andL
  | andAtHl
  | andA
  | xorB
  | xorC
  | xorD
  | xorE
  | xorH
  | xorL
  | xorAtHl
  | xorA
  | orB
  | orC
  | orD
  | orE
  | orH
  | orL
  | orAtHl
  | orA
  | cpB
  | cpC
  | cpD
  | cpE
  | cpH
  | cpL
  | cpAtHl
  | cpA
  -- 16-bit arithmetic, without
  | incBc
  | addHlBc
  | decBc
  | incDe
  | addHlDe
  | decDe
  | incHl
  | addHlHl
  | decHl
  | incSp
  | addHlSp
  | decSp
  -- rotates and shifts, without
  | rlca
  | rrca
  | rla
  | rra
  | rlcB
  | rlcC
  | rlcD
  | rlcE
  | rlcH
  | rlcL
  | rlcAtHl
  | rlcA
  | rrcB
  | rrcC
  | rrcD
  | rrcE
  | rrcH
  | rrcL
  | rrcAtHl
  | rrcA
  | rlB
  | rlC
  | rlD
  | rlE
  | rlH
  | rlL
  | rlAtHl
  | rlA
  | rrB
  | rrC
  | rrD
  | rrE
  | rrH
  | rrL
  | rrAtHl
  | rrA
  | slaB
  | slaC
  | slaD
  | slaE
  | slaH
  | slaL
  | slaAtHl
  | slaA
  | sraB
  | sraC
  | sraD
  | sraE
  | sraH
  | sraL
  | sraAtHl
  | sraA
  | swapB
  | swapC
  | swapD
  | swapE
  | swapH
  | swapL
  | swapAtHl
  | swapA
  | srlB
  | srlC
  | srlD
  | srlE
  | srlH
  | srlL
  | srlAtHl
  | srlA
  -- the prefix, without
  | prefixCb
  -- jumps, calls, returns, restarts, without
  | retNz
  | rst00
  | retZ
  | ret
  | rst08
  | retNc
  | rst10
  | retC
  | reti
  | rst18
  | rst20
  | jpHl
  | rst28
  | rst30
  | rst38
  -- NOP, HALT, STOP, DI, EI and the illegal bytes, without
  | nop
  | halt
  | di
  | ei
  deriving DecidableEq, Repr

end Sys2Proof
end

