-- ==== Sys2Proof/WellFormed.lean ====
section
/-! DEFINITION. Which instructions stand for bytes the machine can fetch. -/

namespace Sys2Proof

/-- The eleven bytes that select no instruction (30_encoding.md R114). -/
def illegalBytes : List Byte :=
  [0xD3, 0xDB, 0xDD, 0xE3, 0xE4, 0xEB, 0xEC, 0xED, 0xF4, 0xFC, 0xFD]

/-- An instruction is well formed if the byte an `illegal` carries is one of the eleven. Every other
operand is well formed by its type. -/
def Instr.wellFormed : Instr → Bool
  | .illegal op => illegalBytes.contains op
  | _ => true

end Sys2Proof
end

