-- ==== Sys2Proof/Decode.lean ====
section
/-! DEFINITION. The decoder, total on any bytes, and the encoder (30_encoding.md R100 to R116). -/

namespace Sys2Proof

/-! ## Decoding -/

/-- Why bytes are no instruction. -/
inductive DecodeError where
  /-- There is no byte to decode. -/
  | noBytes
  /-- The bytes end inside the instruction that `op` begins. -/
  | truncated (op : Byte)
  deriving DecidableEq, Repr

/-- Field x, bits 7:6 (30_encoding.md R101). -/
def opX (op : Byte) : Nat := op.toNat / 64

/-- Field y, bits 5:3 (30_encoding.md R101). -/
def opY (op : Byte) : BitIndex := op.extractLsb' 3 3

/-- Field z, bits 2:0 (30_encoding.md R101). -/
def opZ (op : Byte) : Nat := op.toNat % 8

/-- The row of the primary map with x = `row / 8` and y = `row % 8`, its entries in the order of z
(30_encoding.md R109 to R112, R119); `op` is the opcode byte, `n` the second byte, `nn` the 16-bit
immediate. The entry of 0xCB is the prefix. -/
def primaryRow (op n : Byte) (nn : Word) (row : Nat) : List Instr :=
  match row with
  | 0 => [.nop, .ldBcNn nn, .ldAtBcA, .incBc, .incB, .decB, .ldBN n, .rlca]
  | 1 => [.ldAtNnSp nn, .addHlBc, .ldAAtBc, .decBc, .incC, .decC, .ldCN n, .rrca]
  | 2 => [.stop n, .ldDeNn nn, .ldAtDeA, .incDe, .incD, .decD, .ldDN n, .rla]
  | 3 => [.jrE n, .addHlDe, .ldAAtDe, .decDe, .incE, .decE, .ldEN n, .rra]
  | 4 => [.jrNzE n, .ldHlNn nn, .ldAtHlIncA, .incHl, .incH, .decH, .ldHN n, .daa]
  | 5 => [.jrZE n, .addHlHl, .ldAAtHlInc, .decHl, .incL, .decL, .ldLN n, .cpl]
  | 6 => [.jrNcE n, .ldSpNn nn, .ldAtHlDecA, .incSp, .incAtHl, .decAtHl, .ldAtHlN n, .scf]
  | 7 => [.jrCE n, .addHlSp, .ldAAtHlDec, .decSp, .incA, .decA, .ldAN n, .ccf]
  | 8 => [.ldBB, .ldBC, .ldBD, .ldBE, .ldBH, .ldBL, .ldBAtHl, .ldBA]
  | 9 => [.ldCB, .ldCC, .ldCD, .ldCE, .ldCH, .ldCL, .ldCAtHl, .ldCA]
  | 10 => [.ldDB, .ldDC, .ldDD, .ldDE, .ldDH, .ldDL, .ldDAtHl, .ldDA]
  | 11 => [.ldEB, .ldEC, .ldED, .ldEE, .ldEH, .ldEL, .ldEAtHl, .ldEA]
  | 12 => [.ldHB, .ldHC, .ldHD, .ldHE, .ldHH, .ldHL, .ldHAtHl, .ldHA]
  | 13 => [.ldLB, .ldLC, .ldLD, .ldLE, .ldLH, .ldLL, .ldLAtHl, .ldLA]
  | 14 => [.ldAtHlB, .ldAtHlC, .ldAtHlD, .ldAtHlE, .ldAtHlH, .ldAtHlL, .halt, .ldAtHlA]
  | 15 => [.ldAB, .ldAC, .ldAD, .ldAE, .ldAH, .ldAL, .ldAAtHl, .ldAA]
  | 16 => [.addAB, .addAC, .addAD, .addAE, .addAH, .addAL, .addAAtHl, .addAA]
  | 17 => [.adcAB, .adcAC, .adcAD, .adcAE, .adcAH, .adcAL, .adcAAtHl, .adcAA]
  | 18 => [.subB, .subC, .subD, .subE, .subH, .subL, .subAtHl, .subA]
  | 19 => [.sbcAB, .sbcAC, .sbcAD, .sbcAE, .sbcAH, .sbcAL, .sbcAAtHl, .sbcAA]
  | 20 => [.andB, .andC, .andD, .andE, .andH, .andL, .andAtHl, .andA]
  | 21 => [.xorB, .xorC, .xorD, .xorE, .xorH, .xorL, .xorAtHl, .xorA]
  | 22 => [.orB, .orC, .orD, .orE, .orH, .orL, .orAtHl, .orA]
  | 23 => [.cpB, .cpC, .cpD, .cpE, .cpH, .cpL, .cpAtHl, .cpA]
  | 24 => [.retNz, .popBc, .jpNzNn nn, .jpNn nn, .callNzNn nn, .pushBc, .addAN n, .rst00]
  | 25 => [.retZ, .ret, .jpZNn nn, .prefixCb, .callZNn nn, .callNn nn, .adcAN n, .rst08]
  | 26 => [.retNc, .popDe, .jpNcNn nn, .illegal op, .callNcNn nn, .pushDe, .subN n, .rst10]
  | 27 => [.retC, .reti, .jpCNn nn, .illegal op, .callCNn nn, .illegal op, .sbcAN n, .rst18]
  | 28 => [.ldhAtNA n, .popHl, .ldhAtCA, .illegal op, .illegal op, .pushHl, .andN n, .rst20]
  | 29 => [.addSpE n, .jpHl, .ldAtNnA nn, .illegal op, .illegal op, .illegal op, .xorN n, .rst28]
  | 30 => [.ldhAAtN n, .popAf, .ldhAAtC, .di, .illegal op, .pushAf, .orN n, .rst30]
  | _ => [.ldHlSpE n, .ldSpHl, .ldAAtNn nn, .ei, .illegal op, .illegal op, .cpN n, .rst38]

/-- The row y of the CB map with x = 0: the rotate or shift of code y (30_encoding.md R108, R113). -/
def rotateRow (y : Nat) : List Instr :=
  match y with
  | 0 => [.rlcB, .rlcC, .rlcD, .rlcE, .rlcH, .rlcL, .rlcAtHl, .rlcA]
  | 1 => [.rrcB, .rrcC, .rrcD, .rrcE, .rrcH, .rrcL, .rrcAtHl, .rrcA]
  | 2 => [.rlB, .rlC, .rlD, .rlE, .rlH, .rlL, .rlAtHl, .rlA]
  | 3 => [.rrB, .rrC, .rrD, .rrE, .rrH, .rrL, .rrAtHl, .rrA]
  | 4 => [.slaB, .slaC, .slaD, .slaE, .slaH, .slaL, .slaAtHl, .slaA]
  | 5 => [.sraB, .sraC, .sraD, .sraE, .sraH, .sraL, .sraAtHl, .sraA]
  | 6 => [.swapB, .swapC, .swapD, .swapE, .swapH, .swapL, .swapAtHl, .swapA]
  | _ => [.srlB, .srlC, .srlD, .srlE, .srlH, .srlL, .srlAtHl, .srlA]

/-- The rows of the CB map with x = 1, 2, 3: BIT, RES, SET of bit `b` (30_encoding.md R113). -/
def bitRow (x : Nat) (b : BitIndex) : List Instr :=
  match x with
  | 1 => [.bitB b, .bitC b, .bitD b, .bitE b, .bitH b, .bitL b, .bitAtHl b, .bitA b]
  | 2 => [.resB b, .resC b, .resD b, .resE b, .resH b, .resL b, .resAtHl b, .resA b]
  | _ => [.setB b, .setC b, .setD b, .setE b, .setH b, .setL b, .setAtHl b, .setA b]

/-- The instruction that the byte after 0xCB selects (30_encoding.md R113): every byte is defined; a row
has eight entries, so the default of `getD` is never taken. -/
def decodeCb (op2 : Byte) : Instr :=
  let row := if opX op2 = 0 then rotateRow (opY op2).toNat else bitRow (opX op2) (opY op2)
  row.getD (opZ op2) .nop

/-- The instruction of the primary map (30_encoding.md R109 to R112). -/
def decodePrimary (op n : Byte) (nn : Word) : Instr :=
  (primaryRow op n nn (op.toNat / 8)).getD (opZ op) .nop

/-- The instruction that begins with byte `b0` followed by `b1` and `b2` (30_encoding.md R102); bytes
past its length are not looked at. -/
def decodeBytes (b0 b1 b2 : Byte) : Instr :=
  if b0 = 0xCB then decodeCb b1 else decodePrimary b0 b1 (join b2 b1)

/-- The first bytes of the two-byte instructions (30_encoding.md R119), 0xCB among them. -/
def twoByteOpcodes : List Byte :=
  [0x06, 0x0E, 0x10, 0x16, 0x18, 0x1E, 0x20, 0x26, 0x28, 0x2E, 0x30, 0x36,
   0x38, 0x3E, 0xC6, 0xCB, 0xCE, 0xD6, 0xDE, 0xE0, 0xE6, 0xE8, 0xEE, 0xF0,
   0xF6, 0xF8, 0xFE]

/-- The first bytes of the three-byte instructions (30_encoding.md R119). -/
def threeByteOpcodes : List Byte :=
  [0x01, 0x08, 0x11, 0x21, 0x31, 0xC2, 0xC3, 0xC4, 0xCA, 0xCC, 0xCD, 0xD2,
   0xD4, 0xDA, 0xDC, 0xEA, 0xFA]

/-- The length of an instruction in bytes, told from its first byte alone (30_encoding.md R100, R116). -/
def instrLength (op : Byte) : Nat :=
  if threeByteOpcodes.contains op then 3 else if twoByteOpcodes.contains op then 2 else 1

/-- Decodes the first instruction of a list of bytes and gives the bytes left over. The prefix with
nothing after it is the one-byte row PREFIX CB of the table (log 13). -/
def decode (bytes : List Byte) : Except DecodeError (Instr × List Byte) :=
  match bytes with
  | [] => .error .noBytes
  | b0 :: rest =>
    match instrLength b0, rest with
    | 1, _ => .ok (decodeBytes b0 0 0, rest)
    | 2, b1 :: rest => .ok (decodeBytes b0 b1 0, rest)
    | 2, [] => if b0 = 0xCB then .ok (.prefixCb, []) else .error (.truncated b0)
    | 3, b1 :: b2 :: rest => .ok (decodeBytes b0 b1 b2, rest)
    | _, _ => .error (.truncated b0)

/-! ## Encoding -/

/-- A BIT, RES or SET second byte: x, then the bit number, then the operand code z (R113). -/
def bitByte (x : BitVec 2) (b : BitIndex) (z : BitVec 3) : Byte := x ++ b ++ z

/-- The bytes of an opcode with a 16-bit immediate: low byte first (30_encoding.md R100, R103). -/
def withWord (op : Byte) (nn : Word) : List Byte := [op, loByte nn, hiByte nn]

/-- The bytes of an instruction (30_encoding.md R119). -/
def encode (i : Instr) : List Byte :=
  match i with
  | .nop => [0x00]
  | .ldBcNn nn => withWord 0x01 nn
  | .ldAtBcA => [0x02]
  | .incBc => [0x03]
  | .incB => [0x04]
  | .decB => [0x05]
  | .ldBN n => [0x06, n]
  | .rlca => [0x07]
  | .ldAtNnSp nn => withWord 0x08 nn
  | .addHlBc => [0x09]
  | .ldAAtBc => [0x0A]
  | .decBc => [0x0B]
  | .incC => [0x0C]
  | .decC => [0x0D]
  | .ldCN n => [0x0E, n]
  | .rrca => [0x0F]
  | .stop pad => [0x10, pad]
  | .ldDeNn nn => withWord 0x11 nn
  | .ldAtDeA => [0x12]
  | .incDe => [0x13]
  | .incD => [0x14]
  | .decD => [0x15]
  | .ldDN n => [0x16, n]
  | .rla => [0x17]
  | .jrE e => [0x18, e]
  | .addHlDe => [0x19]
  | .ldAAtDe => [0x1A]
  | .decDe => [0x1B]
  | .incE => [0x1C]
  | .decE => [0x1D]
  | .ldEN n => [0x1E, n]
  | .rra => [0x1F]
  | .jrNzE e => [0x20, e]
  | .ldHlNn nn => withWord 0x21 nn
  | .ldAtHlIncA => [0x22]
  | .incHl => [0x23]
  | .incH => [0x24]
  | .decH => [0x25]
  | .ldHN n => [0x26, n]
  | .daa => [0x27]
  | .jrZE e => [0x28, e]
  | .addHlHl => [0x29]
  | .ldAAtHlInc => [0x2A]
  | .decHl => [0x2B]
  | .incL => [0x2C]
  | .decL => [0x2D]
  | .ldLN n => [0x2E, n]
  | .cpl => [0x2F]
  | .jrNcE e => [0x30, e]
  | .ldSpNn nn => withWord 0x31 nn
  | .ldAtHlDecA => [0x32]
  | .incSp => [0x33]
  | .incAtHl => [0x34]
  | .decAtHl => [0x35]
  | .ldAtHlN n => [0x36, n]
  | .scf => [0x37]
  | .jrCE e => [0x38, e]
  | .addHlSp => [0x39]
  | .ldAAtHlDec => [0x3A]
  | .decSp => [0x3B]
  | .incA => [0x3C]
  | .decA => [0x3D]
  | .ldAN n => [0x3E, n]
  | .ccf => [0x3F]
  | .ldBB => [0x40]
  | .ldBC => [0x41]
  | .ldBD => [0x42]
  | .ldBE => [0x43]
  | .ldBH => [0x44]
  | .ldBL => [0x45]
  | .ldBAtHl => [0x46]
  | .ldBA => [0x47]
  | .ldCB => [0x48]
  | .ldCC => [0x49]
  | .ldCD => [0x4A]
  | .ldCE => [0x4B]
  | .ldCH => [0x4C]
  | .ldCL => [0x4D]
  | .ldCAtHl => [0x4E]
  | .ldCA => [0x4F]
  | .ldDB => [0x50]
  | .ldDC => [0x51]
  | .ldDD => [0x52]
  | .ldDE => [0x53]
  | .ldDH => [0x54]
  | .ldDL => [0x55]
  | .ldDAtHl => [0x56]
  | .ldDA => [0x57]
  | .ldEB => [0x58]
  | .ldEC => [0x59]
  | .ldED => [0x5A]
  | .ldEE => [0x5B]
  | .ldEH => [0x5C]
  | .ldEL => [0x5D]
  | .ldEAtHl => [0x5E]
  | .ldEA => [0x5F]
  | .ldHB => [0x60]
  | .ldHC => [0x61]
  | .ldHD => [0x62]
  | .ldHE => [0x63]
  | .ldHH => [0x64]
  | .ldHL => [0x65]
  | .ldHAtHl => [0x66]
  | .ldHA => [0x67]
  | .ldLB => [0x68]
  | .ldLC => [0x69]
  | .ldLD => [0x6A]
  | .ldLE => [0x6B]
  | .ldLH => [0x6C]
  | .ldLL => [0x6D]
  | .ldLAtHl => [0x6E]
  | .ldLA => [0x6F]
  | .ldAtHlB => [0x70]
  | .ldAtHlC => [0x71]
  | .ldAtHlD => [0x72]
  | .ldAtHlE => [0x73]
  | .ldAtHlH => [0x74]
  | .ldAtHlL => [0x75]
  | .halt => [0x76]
  | .ldAtHlA => [0x77]
  | .ldAB => [0x78]
  | .ldAC => [0x79]
  | .ldAD => [0x7A]
  | .ldAE => [0x7B]
  | .ldAH => [0x7C]
  | .ldAL => [0x7D]
  | .ldAAtHl => [0x7E]
  | .ldAA => [0x7F]
  | .addAB => [0x80]
  | .addAC => [0x81]
  | .addAD => [0x82]
  | .addAE => [0x83]
  | .addAH => [0x84]
  | .addAL => [0x85]
  | .addAAtHl => [0x86]
  | .addAA => [0x87]
  | .adcAB => [0x88]
  | .adcAC => [0x89]
  | .adcAD => [0x8A]
  | .adcAE => [0x8B]
  | .adcAH => [0x8C]
  | .adcAL => [0x8D]
  | .adcAAtHl => [0x8E]
  | .adcAA => [0x8F]
  | .subB => [0x90]
  | .subC => [0x91]
  | .subD => [0x92]
  | .subE => [0x93]
  | .subH => [0x94]
  | .subL => [0x95]
  | .subAtHl => [0x96]
  | .subA => [0x97]
  | .sbcAB => [0x98]
  | .sbcAC => [0x99]
  | .sbcAD => [0x9A]
  | .sbcAE => [0x9B]
  | .sbcAH => [0x9C]
  | .sbcAL => [0x9D]
  | .sbcAAtHl => [0x9E]
  | .sbcAA => [0x9F]
  | .andB => [0xA0]
  | .andC => [0xA1]
  | .andD => [0xA2]
  | .andE => [0xA3]
  | .andH => [0xA4]
  | .andL => [0xA5]
  | .andAtHl => [0xA6]
  | .andA => [0xA7]
  | .xorB => [0xA8]
  | .xorC => [0xA9]
  | .xorD => [0xAA]
  | .xorE => [0xAB]
  | .xorH => [0xAC]
  | .xorL => [0xAD]
  | .xorAtHl => [0xAE]
  | .xorA => [0xAF]
  | .orB => [0xB0]
  | .orC => [0xB1]
  | .orD => [0xB2]
  | .orE => [0xB3]
  | .orH => [0xB4]
  | .orL => [0xB5]
  | .orAtHl => [0xB6]
  | .orA => [0xB7]
  | .cpB => [0xB8]
  | .cpC => [0xB9]
  | .cpD => [0xBA]
  | .cpE => [0xBB]
  | .cpH => [0xBC]
  | .cpL => [0xBD]
  | .cpAtHl => [0xBE]
  | .cpA => [0xBF]
  | .retNz => [0xC0]
  | .popBc => [0xC1]
  | .jpNzNn nn => withWord 0xC2 nn
  | .jpNn nn => withWord 0xC3 nn
  | .callNzNn nn => withWord 0xC4 nn
  | .pushBc => [0xC5]
  | .addAN n => [0xC6, n]
  | .rst00 => [0xC7]
  | .retZ => [0xC8]
  | .ret => [0xC9]
  | .jpZNn nn => withWord 0xCA nn
  | .prefixCb => [0xCB]
  | .callZNn nn => withWord 0xCC nn
  | .callNn nn => withWord 0xCD nn
  | .adcAN n => [0xCE, n]
  | .rst08 => [0xCF]
  | .retNc => [0xD0]
  | .popDe => [0xD1]
  | .jpNcNn nn => withWord 0xD2 nn
  | .illegal op => [op]
  | .callNcNn nn => withWord 0xD4 nn
  | .pushDe => [0xD5]
  | .subN n => [0xD6, n]
  | .rst10 => [0xD7]
  | .retC => [0xD8]
  | .reti => [0xD9]
  | .jpCNn nn => withWord 0xDA nn
  | .callCNn nn => withWord 0xDC nn
  | .sbcAN n => [0xDE, n]
  | .rst18 => [0xDF]
  | .ldhAtNA n => [0xE0, n]
  | .popHl => [0xE1]
  | .ldhAtCA => [0xE2]
  | .pushHl => [0xE5]
  | .andN n => [0xE6, n]
  | .rst20 => [0xE7]
  | .addSpE e => [0xE8, e]
  | .jpHl => [0xE9]
  | .ldAtNnA nn => withWord 0xEA nn
  | .xorN n => [0xEE, n]
  | .rst28 => [0xEF]
  | .ldhAAtN n => [0xF0, n]
  | .popAf => [0xF1]
  | .ldhAAtC => [0xF2]
  | .di => [0xF3]
  | .pushAf => [0xF5]
  | .orN n => [0xF6, n]
  | .rst30 => [0xF7]
  | .ldHlSpE e => [0xF8, e]
  | .ldSpHl => [0xF9]
  | .ldAAtNn nn => withWord 0xFA nn
  | .ei => [0xFB]
  | .cpN n => [0xFE, n]
  | .rst38 => [0xFF]
  | .rlcB => [0xCB, 0x00]
  | .rlcC => [0xCB, 0x01]
  | .rlcD => [0xCB, 0x02]
  | .rlcE => [0xCB, 0x03]
  | .rlcH => [0xCB, 0x04]
  | .rlcL => [0xCB, 0x05]
  | .rlcAtHl => [0xCB, 0x06]
  | .rlcA => [0xCB, 0x07]
  | .rrcB => [0xCB, 0x08]
  | .rrcC => [0xCB, 0x09]
  | .rrcD => [0xCB, 0x0A]
  | .rrcE => [0xCB, 0x0B]
  | .rrcH => [0xCB, 0x0C]
  | .rrcL => [0xCB, 0x0D]
  | .rrcAtHl => [0xCB, 0x0E]
  | .rrcA => [0xCB, 0x0F]
  | .rlB => [0xCB, 0x10]
  | .rlC => [0xCB, 0x11]
  | .rlD => [0xCB, 0x12]
  | .rlE => [0xCB, 0x13]
  | .rlH => [0xCB, 0x14]
  | .rlL => [0xCB, 0x15]
  | .rlAtHl => [0xCB, 0x16]
  | .rlA => [0xCB, 0x17]
  | .rrB => [0xCB, 0x18]
  | .rrC => [0xCB, 0x19]
  | .rrD => [0xCB, 0x1A]
  | .rrE => [0xCB, 0x1B]
  | .rrH => [0xCB, 0x1C]
  | .rrL => [0xCB, 0x1D]
  | .rrAtHl => [0xCB, 0x1E]
  | .rrA => [0xCB, 0x1F]
  | .slaB => [0xCB, 0x20]
  | .slaC => [0xCB, 0x21]
  | .slaD => [0xCB, 0x22]
  | .slaE => [0xCB, 0x23]
  | .slaH => [0xCB, 0x24]
  | .slaL => [0xCB, 0x25]
  | .slaAtHl => [0xCB, 0x26]
  | .slaA => [0xCB, 0x27]
  | .sraB => [0xCB, 0x28]
  | .sraC => [0xCB, 0x29]
  | .sraD => [0xCB, 0x2A]
  | .sraE => [0xCB, 0x2B]
  | .sraH => [0xCB, 0x2C]
  | .sraL => [0xCB, 0x2D]
  | .sraAtHl => [0xCB, 0x2E]
  | .sraA => [0xCB, 0x2F]
  | .swapB => [0xCB, 0x30]
  | .swapC => [0xCB, 0x31]
  | .swapD => [0xCB, 0x32]
  | .swapE => [0xCB, 0x33]
  | .swapH => [0xCB, 0x34]
  | .swapL => [0xCB, 0x35]
  | .swapAtHl => [0xCB, 0x36]
  | .swapA => [0xCB, 0x37]
  | .srlB => [0xCB, 0x38]
  | .srlC => [0xCB, 0x39]
  | .srlD => [0xCB, 0x3A]
  | .srlE => [0xCB, 0x3B]
  | .srlH => [0xCB, 0x3C]
  | .srlL => [0xCB, 0x3D]
  | .srlAtHl => [0xCB, 0x3E]
  | .srlA => [0xCB, 0x3F]
  | .bitB b => [0xCB, bitByte 1 b 0]
  | .bitC b => [0xCB, bitByte 1 b 1]
  | .bitD b => [0xCB, bitByte 1 b 2]
  | .bitE b => [0xCB, bitByte 1 b 3]
  | .bitH b => [0xCB, bitByte 1 b 4]
  | .bitL b => [0xCB, bitByte 1 b 5]
  | .bitAtHl b => [0xCB, bitByte 1 b 6]
  | .bitA b => [0xCB, bitByte 1 b 7]
  | .resB b => [0xCB, bitByte 2 b 0]
  | .resC b => [0xCB, bitByte 2 b 1]
  | .resD b => [0xCB, bitByte 2 b 2]
  | .resE b => [0xCB, bitByte 2 b 3]
  | .resH b => [0xCB, bitByte 2 b 4]
  | .resL b => [0xCB, bitByte 2 b 5]
  | .resAtHl b => [0xCB, bitByte 2 b 6]
  | .resA b => [0xCB, bitByte 2 b 7]
  | .setB b => [0xCB, bitByte 3 b 0]
  | .setC b => [0xCB, bitByte 3 b 1]
  | .setD b => [0xCB, bitByte 3 b 2]
  | .setE b => [0xCB, bitByte 3 b 3]
  | .setH b => [0xCB, bitByte 3 b 4]
  | .setL b => [0xCB, bitByte 3 b 5]
  | .setAtHl b => [0xCB, bitByte 3 b 6]
  | .setA b => [0xCB, bitByte 3 b 7]

/-! ## Words of the opcode table -/

/-- Byte `k` of a table word, byte 0 its bits 7:0. -/
def wordByte (w k : Nat) : Byte := BitVec.ofNat 8 (w / 2 ^ (8 * k))

/-- The three bytes a table word stands for, first byte first, zeros after it (log 12). The table numbers
a CB row with its first byte 0xCB in bits 15:8 (30_encoding.md R119); any other word has its first byte in
bits 7:0. -/
def tableBytes (nbits w : Nat) : List Byte :=
  if nbits = 16 ∧ wordByte w 1 = 0xCB then [wordByte w 1, wordByte w 0, 0]
  else if nbits ≤ 8 then [wordByte w 0, 0, 0]
  else if nbits ≤ 16 then [wordByte w 0, wordByte w 1, 0]
  else [wordByte w 0, wordByte w 1, wordByte w 2]

/-- The instruction the decoder reads from a table word, the bits above `nbits` zero. The eight-bit row
PREFIX CB is the byte 0xCB with nothing after it (logs 12 and 13). -/
def decodeTableWord (nbits w : Nat) : Option Instr :=
  match decode (if nbits ≤ 8 ∧ wordByte w 0 = 0xCB then [0xCB] else tableBytes nbits w) with
  | .ok (i, _) => some i
  | .error _ => none

end Sys2Proof
end

