-- ==== Sys2Proof/Config.lean ====
section
/-! DEFINITION. The parameters of the step relation (00_scope.md R7, 10_state.md R38) and the free
values the environment supplies (00_scope.md R8). -/

namespace Sys2Proof.Machine

/-- The five clock registers of an MBC3 in the order of 63_cartridge.md R444: also one answer of the
oracle `RtcNow` (00_scope.md R8). -/
structure RtcRegs where
  seconds : Byte
  minutes : Byte
  hours   : Byte
  dayLow  : Byte
  dayHigh : Byte
  deriving DecidableEq, Repr, Inhabited

/-- What `PowerOff(k)` and `ExtIrq(k)` answer in one outer step (00_scope.md R8): any subset of the two
requests (60_exceptions.md R323). -/
structure StepInput where
  powerOff : Bool
  serial   : Bool
  joypad   : Bool
  deriving DecidableEq, Repr, Inhabited

/-- The parameters no step changes (10_state.md R38): the cartridge image and its length, the size of
the cartridge RAM, and `HALT_BUG`. `MBC_KIND` and `HAS_RTC` are derived from the image
(63_cartridge.md R421). Carried in State as `cfg`, so that a statement over all states quantifies over
them. -/
structure Config where
  /-- Length of the image in bytes: "ROM size implied by file length" (63_cartridge.md R422). -/
  romLength : Nat
  /-- The image; an unlisted offset is a zero byte. -/
  rom       : Memory
  /-- `RAM_SIZE` in bytes (63_cartridge.md R423). -/
  ramSize   : Nat
  /-- `HALT_BUG` (00_scope.md R7, 92_eei_decisions.md D7). -/
  haltBug   : Bool
  deriving DecidableEq, Repr, Inhabited

/-- FREE VALUE (00_scope.md R8, 60_exceptions.md R323, log 1). What `PowerOff(k)` and `ExtIrq(k)` answer when
no pending input is listed: the argument is the step index `k`, so requests may arrive in any step and
without end. -/
opaque Config.freeStepInput : Nat → StepInput

/-- FREE VALUE (00_scope.md R8, log 2). What `IoRead(addr)` answers when no pending answer is listed:
the argument counts the answers taken so far, so two reads need not agree (20_memory.md R78). -/
opaque Config.freeIoRead : Nat → Word → Byte

/-- FREE VALUE (00_scope.md R8, log 3). What `RtcNow()` answers when no pending answer is listed: the
argument counts the answers taken so far. -/
opaque Config.freeRtcNow : Nat → RtcRegs

end Sys2Proof.Machine
end

