-- ==== Sys2Proof/Machine/State.lean ====
section
/-! DEFINITION. The machine's state as plain data, its stops, and the state after reset. The fields
follow 10_state.md; the record is cut along the components that own them (20_memory.md R83). -/

namespace Sys2Proof.Machine

/-- Why a step ends in a fault. -/
inductive Fault where
  /-- Raised by the eleven illegal bytes fetched as an opcode (46_misc.md R305, 60_exceptions.md R335):
  the address of the byte and the byte. Safe: the spec makes this fault terminal. -/
  | illegalOpcode (addr : Word) (op : Byte)
  deriving DecidableEq, Repr

/-- Why a step is refused. -/
inductive Refusal where
  /-- Raised by `exec` for an instruction that has no meaning yet. Safe: nothing is claimed of it. -/
  | notModelled (mnemonic : String)
  /-- Raised by a step of a machine whose `powered` is 0: "the machine takes no further step"
  (10_state.md R33). Safe: no such step exists. -/
  | poweredOff
  /-- Raised by a step of a machine whose cartridge image is refused at load time (63_cartridge.md
  R421). Safe: the spec gives such an image no behaviour. -/
  | malformedCartridge
  deriving DecidableEq, Repr

/-- F (10_state.md R23): the four flags; bits 3:0 "always read as zero; writes are discarded", so they
are not stored. -/
structure Flags where
  z : Bool
  n : Bool
  h : Bool
  c : Bool
  deriving DecidableEq, Repr, Inhabited

/-- The CPU registers and run-control latches (10_state.md R20 to R28). -/
structure Cpu where
  a : Byte
  f : Flags
  b : Byte
  c : Byte
  d : Byte
  e : Byte
  h : Byte
  l : Byte
  sp : Word
  pc : Word
  /-- IME, the master enable (R25). -/
  ime : Bool
  /-- An EI has executed and IME is set before the next instruction (R26). -/
  eiPending : Bool
  /-- The halted flag (R27). -/
  halted : Bool
  /-- The next `Fetch8` does not advance PC (R28). -/
  haltbugLatch : Bool
  deriving DecidableEq, Repr, Inhabited

/-- The interrupt controller's registers (10_state.md R29, R30). -/
structure Irq where
  /-- IF: bit 0 vblank, 1 STAT, 2 timer, 3 serial, 4 joypad. -/
  flags  : BitVec 5
  /-- IE: all eight bits stored. -/
  enable : Byte
  deriving DecidableEq, Repr, Inhabited

/-- The timer (10_state.md R34). `divCnt` and `timaCnt` are the hidden prescalers, below 256 and 1024
in every reachable state (R43). -/
structure Timer where
  div     : Byte
  divCnt  : Nat
  tima    : Byte
  tma     : Byte
  tac     : Byte
  timaCnt : Nat
  deriving DecidableEq, Repr, Inhabited

/-- The four display modes (10_state.md R35); their numbers are 2, 3, 0, 1. -/
inductive Mode where
  | searchOam
  | transfer
  | hblank
  | vblank
  deriving DecidableEq, Repr, Inhabited

/-- The display-timing state (10_state.md R35). `dot` is below 456 in every reachable state (R43). -/
structure Lcd where
  ly     : Byte
  dot    : Nat
  mode   : Mode
  lcdc   : Byte
  /-- STAT bits 6:3: coincidence, mode 2, mode 1, mode 0 enables. -/
  statEn : BitVec 4
  lyc    : Byte
  dma    : Byte
  scy    : Byte
  scx    : Byte
  bgp    : Byte
  obp0   : Byte
  obp1   : Byte
  wy     : Byte
  wx     : Byte
  deriving DecidableEq, Repr, Inhabited

/-- The cartridge bank registers (10_state.md R36). A register the cartridge's kind lacks keeps its
reset value and is read by nothing (log 17). -/
structure Cart where
  ramEn        : Bool
  bank1        : BitVec 5
  bank2        : BitVec 2
  /-- `mbc1_mode`: false is ROM banking, true RAM banking. -/
  mbc1Mode     : Bool
  romBank      : BitVec 9
  ramSel       : BitVec 4
  rtc          : RtcRegs
  rtcLatchPrev : Byte
  deriving DecidableEq, Repr, Inhabited

/-- The environment's side of the interface (00_scope.md R8) as pending inputs and delivered outputs.
The model's own fields: logs 1 to 4. -/
structure Env where
  /-- One entry per outer step to come; past the end `Config.freeStepInput` answers. -/
  steps     : List StepInput
  /-- The step index `k`: the outer steps taken so far. -/
  stepCount : Nat
  /-- The bytes `IoRead` answers next; past the end `Config.freeIoRead` answers. -/
  ioIn      : List Byte
  ioCount   : Nat
  /-- What `RtcNow` answers next; past the end `Config.freeRtcNow` answers. -/
  rtcIn     : List RtcRegs
  rtcCount  : Nat
  /-- The writes `IoWrite` delivered, newest first. -/
  ioOut     : List (Word × Byte)
  deriving DecidableEq, Repr, Inhabited

end Sys2Proof.Machine

namespace Sys2Proof.Machine

/-- The state of the machine. -/
structure State where
  /-- The parameters of the step relation (R38); no step changes them. -/
  cfg     : Config
  cpu     : Cpu
  /-- The powered flag (R33). -/
  powered : Bool
  irq     : Irq
  timer   : Timer
  lcd     : Lcd
  cart    : Cart
  cram    : Memory
  vram    : Memory
  wram    : Memory
  oam     : Memory
  hram    : Memory
  env     : Env
  /-- The cycles the CPU phase reported last (`cost <- n`, 00_scope.md R10). The model's own (log 8). -/
  cost    : Nat
  /-- The address of the opcode byte last fetched. The model's own (log 9). -/
  opAddr  : Word
  deriving DecidableEq, Repr, Inhabited

/-- The reset record: the registers of 10_state.md R40 and every other piece of state that R41 lists, the
contents of memories apart. A configuration of the power-on (70_reset_and_hazards.md R471). -/
structure ResetRecord where
  cpu     : Cpu
  powered : Bool
  irq     : Irq
  timer   : Timer
  lcd     : Lcd
  /-- Its `rtc` counts only where the cartridge has no clock (log 3). -/
  cart    : Cart
  deriving DecidableEq, Repr, Inhabited

/-- The reset record of the spec: `RESET_REGS` of 10_state.md R40 and the values of R41 (log 7). -/
def resetRecord : ResetRecord where
  cpu := {
    a := 0x01, f := { z := true, n := false, h := true, c := true },
    b := 0x00, c := 0x13, d := 0x00, e := 0xD8, h := 0x01, l := 0x4D,
    sp := 0xFFFE, pc := 0x0100,
    ime := false, eiPending := false, halted := false, haltbugLatch := false }
  powered := true
  irq := { flags := 0, enable := 0 }
  timer := { div := 0, divCnt := 0, tima := 0, tma := 0, tac := 0, timaCnt := 0 }
  lcd := {
    ly := 0, dot := 0, mode := .hblank, lcdc := 0, statEn := 0, lyc := 0, dma := 0,
    scy := 0, scx := 0, bgp := 0, obp0 := 0, obp1 := 0, wy := 0, wx := 0 }
  cart := {
    ramEn := false, bank1 := 1, bank2 := 0, mbc1Mode := false, romBank := 1, ramSel := 0,
    rtc := { seconds := 0, minutes := 0, hours := 0, dayLow := 0, dayHigh := 0 },
    rtcLatchPrev := 0xFF }

/-- The machine right after reset (10_state.md R40, R41; 70_reset_and_hazards.md R470): the spec's reset
record, and the parameters the spec leaves open set as logs 1 to 6 say: a 32 KiB image of zero bytes, no
cartridge RAM, `HALT_BUG` false, RAM of zero bytes, no input listed. `State.powerOn` takes all of them, the
record too, as arguments. -/
def State.reset : State where
  cfg := { romLength := 0x8000, rom := [], ramSize := 0, haltBug := false }
  cpu := resetRecord.cpu
  powered := resetRecord.powered
  irq := resetRecord.irq
  timer := resetRecord.timer
  lcd := resetRecord.lcd
  cart := resetRecord.cart
  cram := []
  vram := []
  wram := []
  oam := []
  hram := []
  env := {
    steps := [], stepCount := 0, ioIn := [], ioCount := 0, rtcIn := [], rtcCount := 0, ioOut := [] }
  cost := 0
  opAddr := 0x0100

end Sys2Proof.Machine
end

