-- ==== Sys2Proof/Machine/Flags.lean ====
section
/-! DEFINITION. The flag register as a byte and every flag computation of the machine
(42_alu8.md R181 to R183, R213 to R216; 43_alu16.md; 44_rotate_shift_bit.md R240). -/

namespace Sys2Proof.Machine

/-- F read as a byte: Z N H C in bits 7 to 4, bits 3:0 zero (10_state.md R23). -/
def Flags.toByte (f : Flags) : Byte :=
  BitVec.ofBool f.z ++ BitVec.ofBool f.n ++ BitVec.ofBool f.h ++ BitVec.ofBool f.c ++ 0#4

/-- F written from a byte: bits 3:0 are discarded (10_state.md R23, 41_load16.md R166). -/
def Flags.ofByte (v : Byte) : Flags :=
  { z := v.getLsbD 7, n := v.getLsbD 6, h := v.getLsbD 5, c := v.getLsbD 4 }

/-- `Add8(a, b, cin)` (42_alu8.md R181). -/
def add8 (a b : Byte) (cin : Bool) : Byte × Flags :=
  let sum := a.toNat + b.toNat + cin.toNat
  let result := BitVec.ofNat 8 sum
  (result,
    { z := result == 0, n := false,
      h := decide (a.toNat % 16 + b.toNat % 16 + cin.toNat > 0xF), c := decide (sum > 0xFF) })

/-- `Sub8(a, b, cin)` (42_alu8.md R182). -/
def sub8 (a b : Byte) (cin : Bool) : Byte × Flags :=
  let result := BitVec.ofInt 8 (Int.ofNat a.toNat - Int.ofNat (b.toNat + cin.toNat))
  (result,
    { z := result == 0, n := true,
      h := decide (a.toNat % 16 < b.toNat % 16 + cin.toNat),
      c := decide (a.toNat < b.toNat + cin.toNat) })

/-- AND (42_alu8.md R197). -/
def and8 (a b : Byte) : Byte × Flags :=
  (a &&& b, { z := a &&& b == 0, n := false, h := true, c := false })

/-- XOR (42_alu8.md R200). -/
def xor8 (a b : Byte) : Byte × Flags :=
  (a ^^^ b, { z := a ^^^ b == 0, n := false, h := false, c := false })

/-- OR (42_alu8.md R203). -/
def or8 (a b : Byte) : Byte × Flags :=
  (a ||| b, { z := a ||| b == 0, n := false, h := false, c := false })

/-- The arithmetic-logic operations (30_encoding.md R107). -/
inductive AluOp where
  | add | adc | sub | sbc | and | xor | or | cp
  deriving DecidableEq, Repr

/-- The new A and the flags of an accumulator operation on A and `b` with old flags `f`
(42_alu8.md R185 to R208); CP discards the result byte. -/
def AluOp.apply (op : AluOp) (a b : Byte) (f : Flags) : Byte × Flags :=
  match op with
  | .add => add8 a b false
  | .adc => add8 a b f.c
  | .sub => sub8 a b false
  | .sbc => sub8 a b f.c
  | .and => and8 a b
  | .xor => xor8 a b
  | .or => or8 a b
  | .cp => (a, (sub8 a b false).2)

/-- INC of a byte (42_alu8.md R209): C unchanged. -/
def inc8 (v : Byte) (f : Flags) : Byte × Flags :=
  (v + 1, { z := v + 1 == 0, n := false, h := v.toNat % 16 == 0xF, c := f.c })

/-- DEC of a byte (42_alu8.md R211): C unchanged. -/
def dec8 (v : Byte) (f : Flags) : Byte × Flags :=
  (v - 1, { z := v - 1 == 0, n := true, h := v.toNat % 16 == 0, c := f.c })

/-- DAA (42_alu8.md R213): both tests after an addition use A from before the adjustment. -/
def daa (a : Byte) (f : Flags) : Byte × Flags :=
  if f.n then
    let adj : Byte := (if f.h then 0x06 else 0) ||| (if f.c then 0x60 else 0)
    (a - adj, { z := a - adj == 0, n := true, h := false, c := f.c })
  else
    let low : Bool := f.h || decide (a.toNat % 16 > 0x09)
    let high : Bool := f.c || decide (a.toNat > 0x99)
    let adj : Byte := (if low then 0x06 else 0) ||| (if high then 0x60 else 0)
    (a + adj, { z := a + adj == 0, n := false, h := false, c := high })

/-- CPL (42_alu8.md R214). -/
def cpl (a : Byte) (f : Flags) : Byte × Flags := (~~~a, { f with n := true, h := true })

/-- SCF (42_alu8.md R215). -/
def scf (f : Flags) : Flags := { f with n := false, h := false, c := true }

/-- CCF (42_alu8.md R216). -/
def ccf (f : Flags) : Flags := { f with n := false, h := false, c := !f.c }

/-- ADD HL,rr (43_alu16.md R231): Z unchanged, carries out of bits 11 and 15. -/
def addHl (a b : Word) (f : Flags) : Word × Flags :=
  (a + b,
    { z := f.z, n := false, h := decide (a.toNat % 0x1000 + b.toNat % 0x1000 > 0xFFF),
      c := decide (a.toNat + b.toNat > 0xFFFF) })

/-- SP plus a signed displacement (41_load16.md R164, 43_alu16.md R234): the carries are those of the
unsigned addition of the low bytes. -/
def spPlus (sp : Word) (e : Byte) : Word × Flags :=
  (sp + sext16 e,
    { z := false, n := false, h := decide (sp.toNat % 16 + e.toNat % 16 > 0xF),
      c := decide (sp.toNat % 256 + e.toNat > 0xFF) })

/-- The rotate and shift operations (30_encoding.md R108). -/
inductive RotOp where
  | rlc | rrc | rl | rr | sla | sra | swap | srl
  deriving DecidableEq, Repr

/-- Result and carry-out of a rotate or shift of `v` with carry `c` (44_rotate_shift_bit.md R240). -/
def RotOp.apply (op : RotOp) (v : Byte) (c : Bool) : Byte × Bool :=
  match op with
  | .rlc => (v.extractLsb' 0 7 ++ v.extractLsb' 7 1, v.getLsbD 7)
  | .rrc => (v.extractLsb' 0 1 ++ v.extractLsb' 1 7, v.getLsbD 0)
  | .rl => (v.extractLsb' 0 7 ++ BitVec.ofBool c, v.getLsbD 7)
  | .rr => (BitVec.ofBool c ++ v.extractLsb' 1 7, v.getLsbD 0)
  | .sla => (v.extractLsb' 0 7 ++ 0#1, v.getLsbD 7)
  | .sra => (v.extractLsb' 7 1 ++ v.extractLsb' 1 7, v.getLsbD 0)
  | .swap => (v.extractLsb' 0 4 ++ v.extractLsb' 4 4, false)
  | .srl => (0#1 ++ v.extractLsb' 1 7, v.getLsbD 0)

/-- Flags after a CB rotate or shift: Z from the result, C the carry-out (44_rotate_shift_bit.md R240). -/
def rotFlags (result : Byte) (co : Bool) : Flags :=
  { z := result == 0, n := false, h := false, c := co }

/-- Flags after RLCA, RLA, RRCA, RRA: Z always cleared (44_rotate_shift_bit.md R240). -/
def rotAFlags (co : Bool) : Flags := { z := false, n := false, h := false, c := co }

/-- Flags after BIT (44_rotate_shift_bit.md R262): C unchanged. -/
def bitFlags (v : Byte) (b : BitIndex) (f : Flags) : Flags :=
  { z := !v.getLsbD b.toNat, n := false, h := true, c := f.c }

end Sys2Proof.Machine
end

