-- ==== Sys2Proof/Machine/Memory.lean ====
section
/-! DEFINITION. Reading and writing one byte of a sparse byte array, and its canonical form. -/

namespace Sys2Proof

/-- What an unlisted offset reads as: 0x00 (log 5: the spec leaves RAM contents at reset open). -/
def Memory.unlisted : Byte := 0

/-- The byte at offset `k`. -/
def Memory.read : Memory → Nat → Byte
  | [], _ => Memory.unlisted
  | (a, v) :: rest, k => if a = k then v else Memory.read rest k

/-- Removes every entry of offset `k`. -/
def Memory.erase : Memory → Nat → Memory
  | [], _ => []
  | (a, v) :: rest, k => if a = k then Memory.erase rest k else (a, v) :: Memory.erase rest k

/-- Puts the entry (`k`, `v`) in its place in the rising order, replacing one of the same offset. -/
def Memory.insert : Memory → Nat → Byte → Memory
  | [], k, v => [(k, v)]
  | (a, w) :: rest, k, v =>
    if k < a then (k, v) :: (a, w) :: rest
    else if k = a then (k, v) :: rest
    else (a, w) :: Memory.insert rest k v

/-- Stores byte `v` at offset `k`; storing what an unlisted offset reads as removes the entry. -/
def Memory.write (m : Memory) (k : Nat) (v : Byte) : Memory :=
  if v = Memory.unlisted then m.erase k else m.insert k v

/-- Every listed offset is above `k`. -/
def Memory.above (k : Nat) : Memory → Bool
  | [] => true
  | (a, _) :: rest => k < a && Memory.above k rest

/-- The canonical form: offsets strictly rising, no entry equal to an unlisted offset's byte. -/
def Memory.wf : Memory → Bool
  | [] => true
  | (a, v) :: rest => v != Memory.unlisted && Memory.above a rest && Memory.wf rest

/-- Every listed offset is below `n`, the size of the array. -/
def Memory.below (n : Nat) : Memory → Bool
  | [] => true
  | (a, _) :: rest => a < n && Memory.below n rest

end Sys2Proof
end

