-- ==== Sys2Proof/Machine/Cartridge.lean ====
section
/-! DEFINITION. The cartridge bank controller (63_cartridge.md). -/

namespace Sys2Proof.Machine

/-- `MBC_KIND` (00_scope.md R7); `direct` is the spec's None, "direct-mapped". -/
inductive MbcKind where
  | direct
  | mbc1
  | mbc3
  | mbc5
  deriving DecidableEq, Repr

/-- One row of the table of 63_cartridge.md R421 (the battery column changes no rule, R453). -/
structure CartType where
  kind   : MbcKind
  hasRam : Bool
  hasRtc : Bool
  deriving DecidableEq, Repr

/-- The cartridge-type table, by `ROM[0x147]`; every other value is refused (63_cartridge.md R421). -/
def cartType (v : Byte) : Option CartType :=
  match v.toNat with
  | 0x00 => some ⟨.direct, false, false⟩
  | 0x01 => some ⟨.mbc1, false, false⟩
  | 0x02 => some ⟨.mbc1, true, false⟩
  | 0x03 => some ⟨.mbc1, true, false⟩
  | 0x08 => some ⟨.direct, true, false⟩
  | 0x09 => some ⟨.direct, true, false⟩
  | 0x0F => some ⟨.mbc3, false, true⟩
  | 0x10 => some ⟨.mbc3, true, true⟩
  | 0x11 => some ⟨.mbc3, false, false⟩
  | 0x12 => some ⟨.mbc3, true, false⟩
  | 0x13 => some ⟨.mbc3, true, false⟩
  | 0x19 => some ⟨.mbc5, false, false⟩
  | 0x1A => some ⟨.mbc5, true, false⟩
  | 0x1B => some ⟨.mbc5, true, false⟩
  | 0x1C => some ⟨.mbc5, false, false⟩
  | 0x1D => some ⟨.mbc5, true, false⟩
  | 0x1E => some ⟨.mbc5, true, false⟩
  | _ => none

/-- The type byte's row for this image. -/
def Config.type (cfg : Config) : Option CartType := cartType (cfg.rom.read 0x147)

/-- `MBC_KIND`, derived from the image; an image of no known type has no bank controller (it is refused
before any step, `Config.accepted`). -/
def Config.kind (cfg : Config) : MbcKind :=
  match cfg.type with
  | some t => t.kind
  | none => .direct

/-- `HAS_RTC`, derived from the image. -/
def Config.hasRtc (cfg : Config) : Bool :=
  match cfg.type with
  | some t => t.hasRtc
  | none => false

/-- The values `RAM_SIZE` may have (63_cartridge.md R423). -/
def ramSizes : List Nat := [0, 0x800, 0x2000, 0x8000, 0x10000, 0x20000]

/-- The load-time check of 63_cartridge.md R421: at least 0x8000 bytes, a whole number of banks, a known
type byte, no cartridge RAM where the type has none. -/
def Config.accepted (cfg : Config) : Bool :=
  0x8000 ≤ cfg.romLength && cfg.romLength % 0x4000 == 0 &&
  match cfg.type with
  | some t => ramSizes.contains cfg.ramSize && (t.hasRam || cfg.ramSize == 0)
  | none => false

/-- `NBANKS` (63_cartridge.md R422). -/
def Config.nBanks (cfg : Config) : Nat := cfg.romLength / 0x4000

/-- `RomBank()`, the current ROM bank (63_cartridge.md R425, R430, R441, R450). -/
def Cart.currentRomBank (kind : MbcKind) (c : Cart) : Nat :=
  match kind with
  | .direct => 1
  | .mbc1 => if c.mbc1Mode then c.bank1.toNat else (c.bank2 ++ c.bank1).toNat
  | .mbc3 => c.romBank.toNat
  | .mbc5 => c.romBank.toNat

/-- The offset in the image of address `addr` of 0x0000 to 0x7FFF (63_cartridge.md R422, R424). -/
def romOffset (cfg : Config) (c : Cart) (addr : Nat) : Nat :=
  if addr < 0x4000 then addr
  else (c.currentRomBank cfg.kind % cfg.nBanks) * 0x4000 + (addr - 0x4000)

/-- What the window 0xA000 to 0xBFFF shows. -/
inductive ExtTarget where
  /-- The byte of CRAM at this offset. -/
  | cram (offset : Nat)
  /-- The clock register of this index in `rtc`. -/
  | clock (index : Nat)
  /-- Nothing: reads 0xFF, writes nothing. -/
  | nothing
  deriving DecidableEq, Repr

/-- Bank `b` of the cartridge RAM at window offset `off` (63_cartridge.md R423). -/
def cramTarget (cfg : Config) (b off : Nat) : ExtTarget :=
  if cfg.ramSize = 0 then .nothing else .cram ((b * 0x2000 + off) % cfg.ramSize)

/-- Where an access of the window at offset `off` (the address less 0xA000) goes, per kind
(63_cartridge.md R425, R430, R431, R443, R452). -/
def extTarget (cfg : Config) (c : Cart) (off : Nat) : ExtTarget :=
  match cfg.kind with
  | .direct => cramTarget cfg 0 off
  | .mbc1 =>
    if c.ramEn then cramTarget cfg (if c.mbc1Mode then c.bank2.toNat else 0) off else .nothing
  | .mbc3 =>
    if c.ramEn then
      if c.ramSel.toNat ≤ 3 then cramTarget cfg c.ramSel.toNat off
      else if cfg.hasRtc && 8 ≤ c.ramSel.toNat && c.ramSel.toNat ≤ 0xC then .clock (c.ramSel.toNat - 8)
      else .nothing
    else .nothing
  | .mbc5 => if c.ramEn then cramTarget cfg c.ramSel.toNat off else .nothing

/-- The clock register of an index (63_cartridge.md R444). -/
def RtcRegs.get (r : RtcRegs) : Nat → Byte
  | 0 => r.seconds
  | 1 => r.minutes
  | 2 => r.hours
  | 3 => r.dayLow
  | _ => r.dayHigh

/-- Writes the clock register of an index: all eight bits are stored (63_cartridge.md R444). -/
def RtcRegs.set (r : RtcRegs) (i : Nat) (v : Byte) : RtcRegs :=
  match i with
  | 0 => { r with seconds := v }
  | 1 => { r with minutes := v }
  | 2 => { r with hours := v }
  | 3 => { r with dayLow := v }
  | _ => { r with dayHigh := v }

/-- `(v & 0x0F) == 0x0A` (63_cartridge.md R426, R440, R448). -/
def enablesRam (v : Byte) : Bool := v.extractLsb' 0 4 == 0xA#4

/-- MBC1 `bank1` as written: five bits, 0 becomes 1 (63_cartridge.md R427). -/
def mbc1Bank (v : Byte) : BitVec 5 := if v.extractLsb' 0 5 = 0 then 1 else v.extractLsb' 0 5

/-- MBC3 `rom_bank` as written: seven bits, 0 becomes 1 (63_cartridge.md R441). -/
def mbc3Bank (v : Byte) : BitVec 9 := if v.extractLsb' 0 7 = 0 then 1 else (v.extractLsb' 0 7).setWidth 9

/-- A control write of an MBC1 (63_cartridge.md R426 to R429). -/
def Cart.controlMbc1 (c : Cart) (addr : Nat) (v : Byte) : Cart :=
  if addr < 0x2000 then { c with ramEn := enablesRam v }
  else if addr < 0x4000 then { c with bank1 := mbc1Bank v }
  else if addr < 0x6000 then { c with bank2 := v.extractLsb' 0 2 }
  else { c with mbc1Mode := v.getLsbD 0 }

/-- A control write of an MBC3 below 0x6000 (63_cartridge.md R440 to R442). -/
def Cart.controlMbc3 (c : Cart) (addr : Nat) (v : Byte) : Cart :=
  if addr < 0x2000 then { c with ramEn := enablesRam v }
  else if addr < 0x4000 then { c with romBank := mbc3Bank v }
  else { c with ramSel := v.extractLsb' 0 4 }

/-- A control write of an MBC5 (63_cartridge.md R448 to R451). -/
def Cart.controlMbc5 (c : Cart) (addr : Nat) (v : Byte) : Cart :=
  if addr < 0x2000 then { c with ramEn := enablesRam v }
  else if addr < 0x3000 then { c with romBank := c.romBank.extractLsb' 8 1 ++ v }
  else if addr < 0x4000 then { c with romBank := v.extractLsb' 0 1 ++ c.romBank.extractLsb' 0 8 }
  else if addr < 0x6000 then { c with ramSel := v.extractLsb' 0 4 }
  else c

end Sys2Proof.Machine
end

