-- ==== Sys2Proof/Machine/Display.lean ====
section
/-! DEFINITION. The display-timing state machine (62_display_timing.md): its tick, its ports, and a
batch of ticks. `RenderLine` has no effect on any state (R399) and is left out (log 19). -/

namespace Sys2Proof.Machine

/-- The vblank request: IF bit 0 (60_exceptions.md R322). -/
def vblankRequest : BitVec 5 := 0b00001

/-- The STAT request: IF bit 1 (60_exceptions.md R322). -/
def statRequest : BitVec 5 := 0b00010

/-- The mode's number, STAT bits 1:0 (10_state.md R35). -/
def Mode.number : Mode → BitVec 2
  | .hblank => 0
  | .vblank => 1
  | .searchOam => 2
  | .transfer => 3

/-- LCDC bit 7, display enable (10_state.md R35). -/
def Lcd.enabled (d : Lcd) : Bool := d.lcdc.getLsbD 7

/-- The STAT request if `stat_en[i]` is 1. -/
def Lcd.statIf (d : Lcd) (i : Nat) : BitVec 5 := if d.statEn.getLsbD i then statRequest else 0

/-- The STAT request if LY equals LYC and `stat_en[3]` is 1 (62_display_timing.md R395). -/
def Lcd.coincidence (d : Lcd) : BitVec 5 := if d.ly = d.lyc then d.statIf 3 else 0

/-- The end of a visible line (62_display_timing.md R389, R390, R392). -/
def Lcd.endVisibleLine (d : Lcd) : Lcd × BitVec 5 :=
  let d := { d with dot := 0, ly := d.ly + 1 }
  if d.ly = 144 then ({ d with mode := .vblank }, d.coincidence ||| vblankRequest ||| d.statIf 1)
  else ({ d with mode := .searchOam }, d.coincidence ||| d.statIf 2)

/-- The end of a VBlank line (62_display_timing.md R391). -/
def Lcd.endVblankLine (d : Lcd) : Lcd × BitVec 5 :=
  let d := { d with dot := 0, ly := d.ly + 1 }
  if d.ly = 154 then
    let d := { d with ly := 0, mode := .searchOam }
    (d, d.statIf 2 ||| d.coincidence)
  else (d, d.coincidence)

/-- `PpuTick()` (62_display_timing.md R386). -/
def Lcd.tick (d : Lcd) : Lcd × BitVec 5 :=
  if d.enabled then
    let d := { d with dot := d.dot + 1 }
    match d.mode with
    | .searchOam => if d.dot = 80 then ({ d with mode := .transfer }, 0) else (d, 0)
    | .transfer => if d.dot = 252 then ({ d with mode := .hblank }, d.statIf 0) else (d, 0)
    | .hblank => if d.dot = 456 then d.endVisibleLine else (d, 0)
    | .vblank => if d.dot = 456 then d.endVblankLine else (d, 0)
  else (d, 0)

/-- Phase 2 of the outer step (60_exceptions.md R330): `c` ticks, their requests joined. -/
def Lcd.ticks : Nat → Lcd → Lcd × BitVec 5
  | 0, d => (d, 0)
  | c + 1, d =>
    let r := d.tick
    let q := Lcd.ticks c r.1
    (q.1, r.2 ||| q.2)

/-- A write to LCDC (62_display_timing.md R383). -/
def Lcd.writeLcdc (d : Lcd) (v : Byte) : Lcd :=
  match d.enabled, v.getLsbD 7 with
  | true, false => { d with lcdc := v, ly := 0, dot := 0, mode := .hblank }
  | false, true => { d with lcdc := v, ly := 0, dot := 0, mode := .searchOam }
  | _, _ => { d with lcdc := v }

/-- What a read of STAT returns (62_display_timing.md R396). -/
def Lcd.readStat (d : Lcd) : Byte :=
  1#1 ++ d.statEn ++ BitVec.ofBool (d.ly == d.lyc) ++ d.mode.number

/-- A write to STAT stores `v[6:3]` (62_display_timing.md R396). -/
def Lcd.writeStat (d : Lcd) (v : Byte) : Lcd := { d with statEn := v.extractLsb' 3 4 }

end Sys2Proof.Machine
end

