-- ==== Sys2Proof/Machine/Timer.lean ====
section
/-! DEFINITION. The hardware timer (61_timer.md): its tick, its ports, and a batch of ticks. -/

namespace Sys2Proof.Machine

/-- The timer's request: IF bit 2 (60_exceptions.md R322). -/
def timerRequest : BitVec 5 := 0b00100

/-- `DIV_PERIOD` (61_timer.md R361). -/
def divPeriod : Nat := 256

/-- `Period(TAC)` (61_timer.md R363). -/
def timaPeriod (tac : Byte) : Nat :=
  match (tac.extractLsb' 0 2).toNat with
  | 0 => 1024
  | 1 => 16
  | 2 => 64
  | _ => 256

/-- TAC bit 2 (61_timer.md R363). -/
def Timer.enabled (t : Timer) : Bool := t.tac.getLsbD 2

/-- The divider's part of one tick (61_timer.md R366). -/
def Timer.tickDiv (t : Timer) : Timer :=
  if t.divCnt + 1 = divPeriod then { t with div := t.div + 1, divCnt := 0 }
  else { t with divCnt := t.divCnt + 1 }

/-- The counter's part of one tick and the request it raises (61_timer.md R366, R368). -/
def Timer.tickTima (t : Timer) : Timer × BitVec 5 :=
  if t.enabled then
    if timaPeriod t.tac ≤ t.timaCnt + 1 then
      if t.tima = 0xFF then ({ t with tima := t.tma, timaCnt := 0 }, timerRequest)
      else ({ t with tima := t.tima + 1, timaCnt := 0 }, 0)
    else ({ t with timaCnt := t.timaCnt + 1 }, 0)
  else (t, 0)

/-- `TimerTick()` (61_timer.md R366). -/
def Timer.tick (t : Timer) : Timer × BitVec 5 := t.tickDiv.tickTima

/-- Phase 3 of the outer step (60_exceptions.md R330): `c` ticks, their requests joined. -/
def Timer.ticks : Nat → Timer → Timer × BitVec 5
  | 0, t => (t, 0)
  | c + 1, t =>
    let r := t.tick
    let q := Timer.ticks c r.1
    (q.1, r.2 ||| q.2)

/-- A write to 0xFF04 (61_timer.md R362): DIV and its prescaler are cleared whatever is written. -/
def Timer.writeDiv (t : Timer) : Timer := { t with div := 0, divCnt := 0 }

end Sys2Proof.Machine
end

