-- ==== Sys2Proof/Machine/Ops.lean ====
section
/-! DEFINITION. The named operations over memory and registers: the address-space dispatcher
(20_memory.md), the stack, the fetch of a byte, taking an interrupt and returning from one. -/

namespace Sys2Proof.Machine

/-! ## The region map (20_memory.md R64, R72 to R74) -/

/-- The in-scope I/O ports (20_memory.md R72). -/
inductive Port where
  | div | tima | tma | tac | ifl | lcdc | stat | scy | scx | ly | lyc | dma
  | bgp | obp0 | obp1 | wy | wx
  deriving DecidableEq, Repr

/-- What an address belongs to, with the offset in its array. -/
inductive Region where
  | cartRom (addr : Nat)
  | vram (off : Nat)
  | cartRam (off : Nat)
  | wram (off : Nat)
  | oam (off : Nat)
  | unmapped
  | port (p : Port)
  /-- A port of an out-of-scope device (20_memory.md R74). -/
  | external
  | hram (off : Nat)
  | enable
  deriving DecidableEq, Repr

/-- The region of the address `0xFF00 + n`, `n` below 0x80 (20_memory.md R72, R73, R74). -/
def portRegion (n : Nat) : Region :=
  if n ≤ 0x02 then .external
  else if 0x10 ≤ n ∧ n ≤ 0x3F then .external
  else match n with
    | 0x04 => .port .div
    | 0x05 => .port .tima
    | 0x06 => .port .tma
    | 0x07 => .port .tac
    | 0x0F => .port .ifl
    | 0x40 => .port .lcdc
    | 0x41 => .port .stat
    | 0x42 => .port .scy
    | 0x43 => .port .scx
    | 0x44 => .port .ly
    | 0x45 => .port .lyc
    | 0x46 => .port .dma
    | 0x47 => .port .bgp
    | 0x48 => .port .obp0
    | 0x49 => .port .obp1
    | 0x4A => .port .wy
    | 0x4B => .port .wx
    | _ => .unmapped

/-- The region map (20_memory.md R64); 0xE000 to 0xFDFF mirrors working RAM (R69). -/
def regionOf (addr : Word) : Region :=
  let n := addr.toNat
  if n < 0x8000 then .cartRom n
  else if n < 0xA000 then .vram (n - 0x8000)
  else if n < 0xC000 then .cartRam (n - 0xA000)
  else if n < 0xE000 then .wram (n - 0xC000)
  else if n < 0xFE00 then .wram (n - 0xE000)
  else if n < 0xFEA0 then .oam (n - 0xFE00)
  else if n < 0xFF00 then .unmapped
  else if n < 0xFF80 then portRegion (n - 0xFF00)
  else if n < 0xFFFF then .hram (n - 0xFF80)
  else .enable

/-! ## The oracles (00_scope.md R8) -/

/-- What `IoRead(addr)` answers next (log 2). -/
def Env.ioAnswer (e : Env) (addr : Word) : Byte :=
  match e.ioIn with
  | v :: _ => v
  | [] => Config.freeIoRead e.ioCount addr

/-- The environment after one `IoRead`. -/
def Env.tookIo (e : Env) : Env :=
  match e.ioIn with
  | _ :: rest => { e with ioIn := rest }
  | [] => { e with ioCount := e.ioCount + 1 }

/-- What `RtcNow()` answers next (log 3). -/
def Env.rtcAnswer (e : Env) : RtcRegs :=
  match e.rtcIn with
  | r :: _ => r
  | [] => Config.freeRtcNow e.rtcCount

/-- The environment after one `RtcNow`. -/
def Env.tookRtc (e : Env) : Env :=
  match e.rtcIn with
  | _ :: rest => { e with rtcIn := rest }
  | [] => { e with rtcCount := e.rtcCount + 1 }

/-- What the environment answers in the outer step about to run (log 1). -/
def Env.stepInput (e : Env) : StepInput :=
  match e.steps with
  | i :: _ => i
  | [] => Config.freeStepInput e.stepCount

/-- `PowerOff(k)` for the outer step about to run. -/
def Env.powerOffNow (e : Env) : Bool := e.stepInput.powerOff

/-- `ExtIrq(k)` for the outer step about to run: serial is bit 3, joypad bit 4 (60_exceptions.md R323). -/
def Env.extIrq (e : Env) : BitVec 5 :=
  BitVec.ofBool e.stepInput.joypad ++ BitVec.ofBool e.stepInput.serial ++ 0#3

/-- The environment after one outer step. -/
def Env.tookStep (e : Env) : Env := { e with steps := e.steps.tail, stepCount := e.stepCount + 1 }

/-! ## Reading (20_memory.md R61, R63, R78) -/

/-- What a read of an in-scope port returns (20_memory.md R72). -/
def State.readPort (s : State) : Port → Byte
  | .div => s.timer.div
  | .tima => s.timer.tima
  | .tma => s.timer.tma
  | .tac => s.timer.tac
  | .ifl => 0b111#3 ++ s.irq.flags
  | .lcdc => s.lcd.lcdc
  | .stat => s.lcd.readStat
  | .scy => s.lcd.scy
  | .scx => s.lcd.scx
  | .ly => s.lcd.ly
  | .lyc => s.lcd.lyc
  | .dma => s.lcd.dma
  | .bgp => s.lcd.bgp
  | .obp0 => s.lcd.obp0
  | .obp1 => s.lcd.obp1
  | .wy => s.lcd.wy
  | .wx => s.lcd.wx

/-- The sentinel an unmapped read returns (20_memory.md R63). -/
def sentinel : Byte := 0xFF

/-- `ExtRead` (63_cartridge.md R424): a read of the cartridge RAM window. -/
def State.readExt (s : State) (off : Nat) : Byte :=
  match extTarget s.cfg s.cart off with
  | .cram k => s.cram.read k
  | .clock i => s.cart.rtc.get i
  | .nothing => sentinel

/-- `MemRead(addr, 1)` (20_memory.md R61): the byte a read of `addr` returns now. -/
def State.busRead (s : State) (addr : Word) : Byte :=
  match regionOf addr with
  | .cartRom n => s.cfg.rom.read (romOffset s.cfg s.cart n)
  | .vram k => s.vram.read k
  | .cartRam k => s.readExt k
  | .wram k => s.wram.read k
  | .oam k => s.oam.read k
  | .unmapped => sentinel
  | .port p => s.readPort p
  | .external => s.env.ioAnswer addr
  | .hram k => s.hram.read k
  | .enable => s.irq.enable

/-- The state after a read of `addr`: only a read of an out-of-scope port consults an oracle
(20_memory.md R74, R78). -/
def State.afterRead (s : State) (addr : Word) : State :=
  match regionOf addr with
  | .external => { s with env := s.env.tookIo }
  | _ => s

/-! ## Writing (20_memory.md R62) -/

/-- The OAM copy's loop (20_memory.md R77): `n` bytes from index `i` on, ascending. -/
def State.copyToOam (page : Byte) : Nat → Nat → State → State
  | 0, _, s => s
  | n + 1, i, s =>
    let src := join page 0 + BitVec.ofNat 16 i
    let t := s.afterRead src
    State.copyToOam page n (i + 1) { t with oam := t.oam.write i (s.busRead src) }

/-- A write of 0xFF46 (20_memory.md R77): 160 bytes copied at once, at no cycle cost. -/
def State.writeDma (s : State) (v : Byte) : State :=
  State.copyToOam v 0xA0 0 { s with lcd := { s.lcd with dma := v } }

/-- What a write of an in-scope port does (20_memory.md R72). -/
def State.writePort (s : State) (p : Port) (v : Byte) : State :=
  match p with
  | .div => { s with timer := s.timer.writeDiv }
  | .tima => { s with timer := { s.timer with tima := v } }
  | .tma => { s with timer := { s.timer with tma := v } }
  | .tac => { s with timer := { s.timer with tac := v } }
  | .ifl => { s with irq := { s.irq with flags := v.extractLsb' 0 5 } }
  | .lcdc => { s with lcd := s.lcd.writeLcdc v }
  | .stat => { s with lcd := s.lcd.writeStat v }
  | .scy => { s with lcd := { s.lcd with scy := v } }
  | .scx => { s with lcd := { s.lcd with scx := v } }
  | .ly => s
  | .lyc => { s with lcd := { s.lcd with lyc := v } }
  | .dma => s.writeDma v
  | .bgp => { s with lcd := { s.lcd with bgp := v } }
  | .obp0 => { s with lcd := { s.lcd with obp0 := v } }
  | .obp1 => { s with lcd := { s.lcd with obp1 := v } }
  | .wy => { s with lcd := { s.lcd with wy := v } }
  | .wx => { s with lcd := { s.lcd with wx := v } }

/-- A write of 0x6000 to 0x7FFF on an MBC3, the clock latch (63_cartridge.md R446). -/
def State.latchClock (s : State) (v : Byte) : State :=
  if s.cfg.hasRtc ∧ s.cart.rtcLatchPrev = 0x00 ∧ v = 0x01 then
    { s with
      cart := { s.cart with rtc := s.env.rtcAnswer, rtcLatchPrev := v }
      env := s.env.tookRtc }
  else { s with cart := { s.cart with rtcLatchPrev := v } }

/-- `CartWrite` below 0x8000 (63_cartridge.md R424): a control write, per kind; never changes ROM. -/
def State.controlWrite (s : State) (addr : Nat) (v : Byte) : State :=
  match s.cfg.kind with
  | .direct => s
  | .mbc1 => { s with cart := s.cart.controlMbc1 addr v }
  | .mbc3 => if addr < 0x6000 then { s with cart := s.cart.controlMbc3 addr v } else s.latchClock v
  | .mbc5 => { s with cart := s.cart.controlMbc5 addr v }

/-- `ExtWrite` (63_cartridge.md R424): a write of the cartridge RAM window. -/
def State.writeExt (s : State) (off : Nat) (v : Byte) : State :=
  match extTarget s.cfg s.cart off with
  | .cram k => { s with cram := s.cram.write k v }
  | .clock i => { s with cart := { s.cart with rtc := s.cart.rtc.set i v } }
  | .nothing => s

/-- `MemWrite(addr, 1, v)` (20_memory.md R62); a write of an out-of-scope port is delivered to its
owner (R74, log 4). -/
def State.busWrite (s : State) (addr : Word) (v : Byte) : State :=
  match regionOf addr with
  | .cartRom n => s.controlWrite n v
  | .vram k => { s with vram := s.vram.write k v }
  | .cartRam k => s.writeExt k v
  | .wram k => { s with wram := s.wram.write k v }
  | .oam k => { s with oam := s.oam.write k v }
  | .unmapped => s
  | .port p => s.writePort p v
  | .external => { s with env := { s.env with ioOut := (addr, v) :: s.env.ioOut } }
  | .hram k => { s with hram := s.hram.write k v }
  | .enable => { s with irq := { s.irq with enable := v } }

/-! ## Registers the operations below write -/

/-- `PC <- v`. -/
def State.setPc (s : State) (v : Word) : State := { s with cpu := { s.cpu with pc := v } }

/-- `SP <- v`. -/
def State.setSp (s : State) (v : Word) : State := { s with cpu := { s.cpu with sp := v } }

/-- Writes IME and `ei_pending`. -/
def State.setIme (s : State) (ime eiPending : Bool) : State :=
  { s with cpu := { s.cpu with ime := ime, eiPending := eiPending } }

/-- `halted <- v`. -/
def State.setHalted (s : State) (v : Bool) : State := { s with cpu := { s.cpu with halted := v } }

/-- `haltbug_latch <- v`. -/
def State.setLatch (s : State) (v : Bool) : State :=
  { s with cpu := { s.cpu with haltbugLatch := v } }

/-- `cost <- n` (00_scope.md R10). -/
def State.report (s : State) (n : Nat) : State := { s with cost := n }

/-! ## The stack (41_load16.md R160) -/

/-- Pushes one byte. -/
def State.push8 (s : State) (v : Byte) : State :=
  (s.setSp (s.cpu.sp - 1)).busWrite (s.cpu.sp - 1) v

/-- `Push16(v)`: the high byte first. -/
def State.push16 (s : State) (v : Word) : State := (s.push8 (hiByte v)).push8 (loByte v)

/-- The state after popping one byte, `s.busRead s.cpu.sp`. -/
def State.afterPop8 (s : State) : State := (s.afterRead s.cpu.sp).setSp (s.cpu.sp + 1)

/-- The value `Pop16()` yields. -/
def State.popped16 (s : State) : Word :=
  join (s.afterPop8.busRead s.afterPop8.cpu.sp) (s.busRead s.cpu.sp)

/-- The state after `Pop16()`. -/
def State.afterPop16 (s : State) : State := s.afterPop8.afterPop8

/-! ## Fetching a byte (00_scope.md R10) -/

/-- The state after `Fetch8()`, which yields `s.busRead s.cpu.pc`: PC advances unless
`haltbug_latch` is set, which the fetch clears. -/
def State.afterFetch8 (s : State) : State :=
  let t := s.afterRead s.cpu.pc
  if s.cpu.haltbugLatch then t.setLatch false else t.setPc (s.cpu.pc + 1)

/-! ## Interrupts (60_exceptions.md R326) -/

/-- `IE & IF & 0x1F`. -/
def State.pending (s : State) : BitVec 5 := s.irq.enable.extractLsb' 0 5 &&& s.irq.flags

/-- The lowest-numbered bit set in a nonzero request set (60_exceptions.md R322). -/
def lowestRequest (p : BitVec 5) : Nat :=
  if p.getLsbD 0 then 0
  else if p.getLsbD 1 then 1
  else if p.getLsbD 2 then 2
  else if p.getLsbD 3 then 3
  else 4

/-- `0x0040 + 8 * n` (60_exceptions.md R322). -/
def interruptVector (n : Nat) : Word := BitVec.ofNat 16 (0x40 + 8 * n)

/-- Clears bit `n` of IF. -/
def State.clearRequest (s : State) (n : Nat) : State :=
  { s with irq := { s.irq with flags := s.irq.flags &&& ~~~(1#5 <<< n) } }

/-- Taking an exception: `InterruptDispatch(n)` (60_exceptions.md R326). PC is saved on the stack and
nothing else is; IME, `ei_pending` and the one IF bit are cleared. -/
def State.takeInterrupt (s : State) (n : Nat) : State :=
  let t := (s.setIme false false).clearRequest n
  (t.push16 t.cpu.pc).setPc (interruptVector n)

/-- Returning from one (45_control.md R290): PC is popped and IME set at once. -/
def State.returnFromInterrupt (s : State) : State :=
  (s.afterPop16.setPc s.popped16).setIme true false

end Sys2Proof.Machine
end

