-- ==== Sys2Proof/Machine/Operands.lean ====
section
/-! DEFINITION. The operand forms of the instructions: registers, pairs, the byte at HL, conditions
(30_encoding.md R103 to R106). -/

namespace Sys2Proof.Machine

/-- What a meaning answers. -/
abbrev Result := Host.Outcome State Fault Refusal

/-- The seven 8-bit registers an operand code names (30_encoding.md R104). -/
inductive Reg8 where
  | b | c | d | e | h | l | a
  deriving DecidableEq, Repr

/-- The operands `rr` (30_encoding.md R105). -/
inductive Reg16 where
  | bc | de | hl | sp
  deriving DecidableEq, Repr

/-- The operands `qq` of PUSH and POP (30_encoding.md R105). -/
inductive StackPair where
  | bc | de | hl | af
  deriving DecidableEq, Repr

/-- An 8-bit operand code with all its eight values: code 6 is the byte at HL (30_encoding.md R104). -/
inductive Operand8 where
  | reg (r : Reg8)
  | atHl
  deriving DecidableEq, Repr

/-- The condition codes (30_encoding.md R106). -/
inductive Cond where
  | nz | z | nc | c
  deriving DecidableEq, Repr

/-- The operand of code `z` (30_encoding.md R104). -/
def Operand8.ofCode (code : BitVec 3) : Operand8 :=
  match code.toNat with
  | 0 => .reg .b
  | 1 => .reg .c
  | 2 => .reg .d
  | 3 => .reg .e
  | 4 => .reg .h
  | 5 => .reg .l
  | 6 => .atHl
  | _ => .reg .a

/-- The rotate or shift of code `y` (30_encoding.md R108). -/
def RotOp.ofCode (code : BitVec 3) : RotOp :=
  match code.toNat with
  | 0 => .rlc
  | 1 => .rrc
  | 2 => .rl
  | 3 => .rr
  | 4 => .sla
  | 5 => .sra
  | 6 => .swap
  | _ => .srl

/-! ## Registers -/

/-- Reads an 8-bit register. -/
def State.reg (s : State) : Reg8 → Byte
  | .b => s.cpu.b
  | .c => s.cpu.c
  | .d => s.cpu.d
  | .e => s.cpu.e
  | .h => s.cpu.h
  | .l => s.cpu.l
  | .a => s.cpu.a

/-- Writes an 8-bit register. -/
def State.setReg (s : State) (r : Reg8) (v : Byte) : State :=
  match r with
  | .b => { s with cpu := { s.cpu with b := v } }
  | .c => { s with cpu := { s.cpu with c := v } }
  | .d => { s with cpu := { s.cpu with d := v } }
  | .e => { s with cpu := { s.cpu with e := v } }
  | .h => { s with cpu := { s.cpu with h := v } }
  | .l => { s with cpu := { s.cpu with l := v } }
  | .a => { s with cpu := { s.cpu with a := v } }

/-- Writes F. -/
def State.setFlags (s : State) (f : Flags) : State := { s with cpu := { s.cpu with f := f } }

/-- Writes A and F. -/
def State.setAF (s : State) (a : Byte) (f : Flags) : State :=
  { s with cpu := { s.cpu with a := a, f := f } }

/-- F read as a byte (10_state.md R23). -/
def State.fByte (s : State) : Byte := s.cpu.f.toByte

/-- BC = {B, C} (10_state.md R21). -/
def State.bc (s : State) : Word := join s.cpu.b s.cpu.c

/-- DE = {D, E} (10_state.md R21). -/
def State.de (s : State) : Word := join s.cpu.d s.cpu.e

/-- HL = {H, L} (10_state.md R21). -/
def State.hl (s : State) : Word := join s.cpu.h s.cpu.l

/-- AF = {A, F} (10_state.md R21). -/
def State.af (s : State) : Word := join s.cpu.a s.fByte

/-- Writes B and C. -/
def State.setBc (s : State) (v : Word) : State :=
  { s with cpu := { s.cpu with b := hiByte v, c := loByte v } }

/-- Writes D and E. -/
def State.setDe (s : State) (v : Word) : State :=
  { s with cpu := { s.cpu with d := hiByte v, e := loByte v } }

/-- Writes H and L. -/
def State.setHl (s : State) (v : Word) : State :=
  { s with cpu := { s.cpu with h := hiByte v, l := loByte v } }

/-- Reads `r16[p]` (30_encoding.md R105). -/
def State.reg16 (s : State) : Reg16 → Word
  | .bc => s.bc
  | .de => s.de
  | .hl => s.hl
  | .sp => s.cpu.sp

/-- Writes `r16[p]`. -/
def State.setReg16 (s : State) (r : Reg16) (v : Word) : State :=
  match r with
  | .bc => s.setBc v
  | .de => s.setDe v
  | .hl => s.setHl v
  | .sp => s.setSp v

/-- Reads `r16s[p]` (30_encoding.md R105). -/
def State.stackPair (s : State) : StackPair → Word
  | .bc => s.bc
  | .de => s.de
  | .hl => s.hl
  | .af => s.af

/-- Writes `r16s[p]`; AF drops the low four bits of F (41_load16.md R166). -/
def State.setStackPair (s : State) (q : StackPair) (v : Word) : State :=
  match q with
  | .bc => s.setBc v
  | .de => s.setDe v
  | .hl => s.setHl v
  | .af => s.setAF (hiByte v) (Flags.ofByte (loByte v))

/-! ## 8-bit operands with the byte at HL -/

/-- The value of an operand. -/
def State.operand (s : State) : Operand8 → Byte
  | .reg r => s.reg r
  | .atHl => s.busRead s.hl

/-- The state after reading an operand. -/
def State.afterOperand (s : State) : Operand8 → State
  | .reg _ => s
  | .atHl => s.afterRead s.hl

/-- Writes an operand. -/
def State.setOperand (s : State) (o : Operand8) (v : Byte) : State :=
  match o with
  | .reg r => s.setReg r v
  | .atHl => s.busWrite s.hl v

/-- `x` for a register operand, `y` for the byte at HL. -/
def Operand8.cost (o : Operand8) (x y : Nat) : Nat :=
  match o with
  | .reg _ => x
  | .atHl => y

/-! ## Conditions -/

/-- `cond(cc)` (45_control.md R280). -/
def Cond.holds (cc : Cond) (f : Flags) : Bool :=
  match cc with
  | .nz => !f.z
  | .z => f.z
  | .nc => !f.c
  | .c => f.c

end Sys2Proof.Machine
end

