-- ==== Sys2Proof/Machine/Alu16.lean ====
section
/-! DEFINITION. 16-bit arithmetic (43_alu16.md). -/

namespace Sys2Proof.Machine

/-- ADD HL,rr (R231). -/
def addToHl (r : Reg16) (s : State) : Result :=
  let x := addHl s.hl (s.reg16 r) s.cpu.f
  .next (((s.setHl x.1).setFlags x.2).report 8)

/-- `INC BC` (R232). -/
def execIncBc (s : State) : Result := .next ((s.setReg16 .bc (s.reg16 .bc + 1)).report 8)

/-- `ADD HL,BC` (R231). -/
def execAddHlBc (s : State) : Result := addToHl .bc s

/-- `DEC BC` (R233). -/
def execDecBc (s : State) : Result := .next ((s.setReg16 .bc (s.reg16 .bc - 1)).report 8)

/-- `INC DE` (R232). -/
def execIncDe (s : State) : Result := .next ((s.setReg16 .de (s.reg16 .de + 1)).report 8)

/-- `ADD HL,DE` (R231). -/
def execAddHlDe (s : State) : Result := addToHl .de s

/-- `DEC DE` (R233). -/
def execDecDe (s : State) : Result := .next ((s.setReg16 .de (s.reg16 .de - 1)).report 8)

/-- `INC HL` (R232). -/
def execIncHl (s : State) : Result := .next ((s.setReg16 .hl (s.reg16 .hl + 1)).report 8)

/-- `ADD HL,HL` (R231). -/
def execAddHlHl (s : State) : Result := addToHl .hl s

/-- `DEC HL` (R233). -/
def execDecHl (s : State) : Result := .next ((s.setReg16 .hl (s.reg16 .hl - 1)).report 8)

/-- `INC SP` (R232). -/
def execIncSp (s : State) : Result := .next ((s.setReg16 .sp (s.reg16 .sp + 1)).report 8)

/-- `ADD HL,SP` (R231). -/
def execAddHlSp (s : State) : Result := addToHl .sp s

/-- `DEC SP` (R233). -/
def execDecSp (s : State) : Result := .next ((s.setReg16 .sp (s.reg16 .sp - 1)).report 8)

/-- `ADD SP,e` (R234). -/
def execAddSpE (e : Byte) (s : State) : Result :=
  .next (((s.setSp (spPlus s.cpu.sp e).1).setFlags (spPlus s.cpu.sp e).2).report 16)

end Sys2Proof.Machine
end

