-- ==== Sys2Proof/Machine/Alu8.lean ====
section
/-! DEFINITION. 8-bit arithmetic and logic (42_alu8.md). -/

namespace Sys2Proof.Machine

/-- An accumulator operation on a register or the byte at HL (R180). -/
def aluOperand (op : AluOp) (o : Operand8) (s : State) : Result :=
  let r := op.apply s.cpu.a (s.operand o) s.cpu.f
  .next (((s.afterOperand o).setAF r.1 r.2).report (o.cost 4 8))

/-- An accumulator operation on an immediate (R180). -/
def aluImmediate (op : AluOp) (n : Byte) (s : State) : Result :=
  let r := op.apply s.cpu.a n s.cpu.f
  .next ((s.setAF r.1 r.2).report 8)

/-- INC of a register or of the byte at HL (R209, R210). -/
def incOperand (o : Operand8) (s : State) : Result :=
  let r := inc8 (s.operand o) s.cpu.f
  .next ((((s.afterOperand o).setOperand o r.1).setFlags r.2).report (o.cost 4 12))

/-- DEC of a register or of the byte at HL (R211, R212). -/
def decOperand (o : Operand8) (s : State) : Result :=
  let r := dec8 (s.operand o) s.cpu.f
  .next ((((s.afterOperand o).setOperand o r.1).setFlags r.2).report (o.cost 4 12))

/-- `INC B` (R209). -/
def execIncB (s : State) : Result := incOperand (.reg .b) s

/-- `DEC B` (R211). -/
def execDecB (s : State) : Result := decOperand (.reg .b) s

/-- `INC C` (R209). -/
def execIncC (s : State) : Result := incOperand (.reg .c) s

/-- `DEC C` (R211). -/
def execDecC (s : State) : Result := decOperand (.reg .c) s

/-- `INC D` (R209). -/
def execIncD (s : State) : Result := incOperand (.reg .d) s

/-- `DEC D` (R211). -/
def execDecD (s : State) : Result := decOperand (.reg .d) s

/-- `INC E` (R209). -/
def execIncE (s : State) : Result := incOperand (.reg .e) s

/-- `DEC E` (R211). -/
def execDecE (s : State) : Result := decOperand (.reg .e) s

/-- `INC H` (R209). -/
def execIncH (s : State) : Result := incOperand (.reg .h) s

/-- `DEC H` (R211). -/
def execDecH (s : State) : Result := decOperand (.reg .h) s

/-- `DAA` (R213). -/
def execDaa (s : State) : Result := .next ((s.setAF (daa s.cpu.a s.cpu.f).1 (daa s.cpu.a s.cpu.f).2).report 4)

/-- `INC L` (R209). -/
def execIncL (s : State) : Result := incOperand (.reg .l) s

/-- `DEC L` (R211). -/
def execDecL (s : State) : Result := decOperand (.reg .l) s

/-- `CPL` (R214). -/
def execCpl (s : State) : Result := .next ((s.setAF (cpl s.cpu.a s.cpu.f).1 (cpl s.cpu.a s.cpu.f).2).report 4)

/-- `INC (HL)` (R210). -/
def execIncAtHl (s : State) : Result := incOperand .atHl s

/-- `DEC (HL)` (R212). -/
def execDecAtHl (s : State) : Result := decOperand .atHl s

/-- `SCF` (R215). -/
def execScf (s : State) : Result := .next ((s.setFlags (scf s.cpu.f)).report 4)

/-- `INC A` (R209). -/
def execIncA (s : State) : Result := incOperand (.reg .a) s

/-- `DEC A` (R211). -/
def execDecA (s : State) : Result := decOperand (.reg .a) s

/-- `CCF` (R216). -/
def execCcf (s : State) : Result := .next ((s.setFlags (ccf s.cpu.f)).report 4)

/-- `ADD A,B` (R185). -/
def execAddAB (s : State) : Result := aluOperand .add (.reg .b) s

/-- `ADD A,C` (R185). -/
def execAddAC (s : State) : Result := aluOperand .add (.reg .c) s

/-- `ADD A,D` (R185). -/
def execAddAD (s : State) : Result := aluOperand .add (.reg .d) s

/-- `ADD A,E` (R185). -/
def execAddAE (s : State) : Result := aluOperand .add (.reg .e) s

/-- `ADD A,H` (R185). -/
def execAddAH (s : State) : Result := aluOperand .add (.reg .h) s

/-- `ADD A,L` (R185). -/
def execAddAL (s : State) : Result := aluOperand .add (.reg .l) s

/-- `ADD A,(HL)` (R186). -/
def execAddAAtHl (s : State) : Result := aluOperand .add .atHl s

/-- `ADD A,A` (R185). -/
def execAddAA (s : State) : Result := aluOperand .add (.reg .a) s

/-- `ADC A,B` (R188). -/
def execAdcAB (s : State) : Result := aluOperand .adc (.reg .b) s

/-- `ADC A,C` (R188). -/
def execAdcAC (s : State) : Result := aluOperand .adc (.reg .c) s

/-- `ADC A,D` (R188). -/
def execAdcAD (s : State) : Result := aluOperand .adc (.reg .d) s

/-- `ADC A,E` (R188). -/
def execAdcAE (s : State) : Result := aluOperand .adc (.reg .e) s

/-- `ADC A,H` (R188). -/
def execAdcAH (s : State) : Result := aluOperand .adc (.reg .h) s

/-- `ADC A,L` (R188). -/
def execAdcAL (s : State) : Result := aluOperand .adc (.reg .l) s

/-- `ADC A,(HL)` (R189). -/
def execAdcAAtHl (s : State) : Result := aluOperand .adc .atHl s

/-- `ADC A,A` (R188). -/
def execAdcAA (s : State) : Result := aluOperand .adc (.reg .a) s

/-- `SUB B` (R191). -/
def execSubB (s : State) : Result := aluOperand .sub (.reg .b) s

/-- `SUB C` (R191). -/
def execSubC (s : State) : Result := aluOperand .sub (.reg .c) s

/-- `SUB D` (R191). -/
def execSubD (s : State) : Result := aluOperand .sub (.reg .d) s

/-- `SUB E` (R191). -/
def execSubE (s : State) : Result := aluOperand .sub (.reg .e) s

/-- `SUB H` (R191). -/
def execSubH (s : State) : Result := aluOperand .sub (.reg .h) s

/-- `SUB L` (R191). -/
def execSubL (s : State) : Result := aluOperand .sub (.reg .l) s

/-- `SUB (HL)` (R192). -/
def execSubAtHl (s : State) : Result := aluOperand .sub .atHl s

/-- `SUB A` (R191). -/
def execSubA (s : State) : Result := aluOperand .sub (.reg .a) s

/-- `SBC A,B` (R194). -/
def execSbcAB (s : State) : Result := aluOperand .sbc (.reg .b) s

/-- `SBC A,C` (R194). -/
def execSbcAC (s : State) : Result := aluOperand .sbc (.reg .c) s

/-- `SBC A,D` (R194). -/
def execSbcAD (s : State) : Result := aluOperand .sbc (.reg .d) s

/-- `SBC A,E` (R194). -/
def execSbcAE (s : State) : Result := aluOperand .sbc (.reg .e) s

/-- `SBC A,H` (R194). -/
def execSbcAH (s : State) : Result := aluOperand .sbc (.reg .h) s

/-- `SBC A,L` (R194). -/
def execSbcAL (s : State) : Result := aluOperand .sbc (.reg .l) s

/-- `SBC A,(HL)` (R195). -/
def execSbcAAtHl (s : State) : Result := aluOperand .sbc .atHl s

/-- `SBC A,A` (R194). -/
def execSbcAA (s : State) : Result := aluOperand .sbc (.reg .a) s

/-- `AND B` (R197). -/
def execAndB (s : State) : Result := aluOperand .and (.reg .b) s

/-- `AND C` (R197). -/
def execAndC (s : State) : Result := aluOperand .and (.reg .c) s

/-- `AND D` (R197). -/
def execAndD (s : State) : Result := aluOperand .and (.reg .d) s

/-- `AND E` (R197). -/
def execAndE (s : State) : Result := aluOperand .and (.reg .e) s

/-- `AND H` (R197). -/
def execAndH (s : State) : Result := aluOperand .and (.reg .h) s

/-- `AND L` (R197). -/
def execAndL (s : State) : Result := aluOperand .and (.reg .l) s

/-- `AND (HL)` (R198). -/
def execAndAtHl (s : State) : Result := aluOperand .and .atHl s

/-- `AND A` (R197). -/
def execAndA (s : State) : Result := aluOperand .and (.reg .a) s

/-- `XOR B` (R200). -/
def execXorB (s : State) : Result := aluOperand .xor (.reg .b) s

/-- `XOR C` (R200). -/
def execXorC (s : State) : Result := aluOperand .xor (.reg .c) s

/-- `XOR D` (R200). -/
def execXorD (s : State) : Result := aluOperand .xor (.reg .d) s

/-- `XOR E` (R200). -/
def execXorE (s : State) : Result := aluOperand .xor (.reg .e) s

/-- `XOR H` (R200). -/
def execXorH (s : State) : Result := aluOperand .xor (.reg .h) s

/-- `XOR L` (R200). -/
def execXorL (s : State) : Result := aluOperand .xor (.reg .l) s

/-- `XOR (HL)` (R201). -/
def execXorAtHl (s : State) : Result := aluOperand .xor .atHl s

/-- `XOR A` (R200). -/
def execXorA (s : State) : Result := aluOperand .xor (.reg .a) s

/-- `OR B` (R203). -/
def execOrB (s : State) : Result := aluOperand .or (.reg .b) s

/-- `OR C` (R203). -/
def execOrC (s : State) : Result := aluOperand .or (.reg .c) s

/-- `OR D` (R203). -/
def execOrD (s : State) : Result := aluOperand .or (.reg .d) s

/-- `OR E` (R203). -/
def execOrE (s : State) : Result := aluOperand .or (.reg .e) s

/-- `OR H` (R203). -/
def execOrH (s : State) : Result := aluOperand .or (.reg .h) s

/-- `OR L` (R203). -/
def execOrL (s : State) : Result := aluOperand .or (.reg .l) s

/-- `OR (HL)` (R204). -/
def execOrAtHl (s : State) : Result := aluOperand .or .atHl s

/-- `OR A` (R203). -/
def execOrA (s : State) : Result := aluOperand .or (.reg .a) s

/-- `CP B` (R206). -/
def execCpB (s : State) : Result := aluOperand .cp (.reg .b) s

/-- `CP C` (R206). -/
def execCpC (s : State) : Result := aluOperand .cp (.reg .c) s

/-- `CP D` (R206). -/
def execCpD (s : State) : Result := aluOperand .cp (.reg .d) s

/-- `CP E` (R206). -/
def execCpE (s : State) : Result := aluOperand .cp (.reg .e) s

/-- `CP H` (R206). -/
def execCpH (s : State) : Result := aluOperand .cp (.reg .h) s

/-- `CP L` (R206). -/
def execCpL (s : State) : Result := aluOperand .cp (.reg .l) s

/-- `CP (HL)` (R207). -/
def execCpAtHl (s : State) : Result := aluOperand .cp .atHl s

/-- `CP A` (R206). -/
def execCpA (s : State) : Result := aluOperand .cp (.reg .a) s

/-- `ADD A,n` (R187). -/
def execAddAN (n : Byte) (s : State) : Result := aluImmediate .add n s

/-- `ADC A,n` (R190). -/
def execAdcAN (n : Byte) (s : State) : Result := aluImmediate .adc n s

/-- `SUB n` (R193). -/
def execSubN (n : Byte) (s : State) : Result := aluImmediate .sub n s

/-- `SBC A,n` (R196). -/
def execSbcAN (n : Byte) (s : State) : Result := aluImmediate .sbc n s

/-- `AND n` (R199). -/
def execAndN (n : Byte) (s : State) : Result := aluImmediate .and n s

/-- `XOR n` (R202). -/
def execXorN (n : Byte) (s : State) : Result := aluImmediate .xor n s

/-- `OR n` (R205). -/
def execOrN (n : Byte) (s : State) : Result := aluImmediate .or n s

/-- `CP n` (R208). -/
def execCpN (n : Byte) (s : State) : Result := aluImmediate .cp n s

end Sys2Proof.Machine
end

