-- ==== Sys2Proof/Machine/Control.lean ====
section
/-! DEFINITION. Jumps, calls, returns and restarts (45_control.md). PC already points past the whole
instruction (R280). -/

namespace Sys2Proof.Machine

/-- Pushes PC and jumps (R286, R291). -/
def State.call (s : State) (target : Word) : State := (s.push16 s.cpu.pc).setPc target

/-- Pops PC (R288). -/
def State.ret (s : State) : State := s.afterPop16.setPc s.popped16

/-- A conditional transfer (R280): the taken state and its cost, or nothing but the lower cost. -/
def branch (cc : Cond) (taken : State) (costTaken costNot : Nat) (s : State) : Result :=
  if cc.holds s.cpu.f then .next (taken.report costTaken) else .next (s.report costNot)

/-- `JR e` (R284). -/
def execJrE (e : Byte) (s : State) : Result := .next ((s.setPc (s.cpu.pc + sext16 e)).report 12)

/-- `JR NZ,e` (R285). -/
def execJrNzE (e : Byte) (s : State) : Result := branch .nz (s.setPc (s.cpu.pc + sext16 e)) 12 8 s

/-- `JR Z,e` (R285). -/
def execJrZE (e : Byte) (s : State) : Result := branch .z (s.setPc (s.cpu.pc + sext16 e)) 12 8 s

/-- `JR NC,e` (R285). -/
def execJrNcE (e : Byte) (s : State) : Result := branch .nc (s.setPc (s.cpu.pc + sext16 e)) 12 8 s

/-- `JR C,e` (R285). -/
def execJrCE (e : Byte) (s : State) : Result := branch .c (s.setPc (s.cpu.pc + sext16 e)) 12 8 s

/-- `RET NZ` (R289). -/
def execRetNz (s : State) : Result := branch .nz s.ret 20 8 s

/-- `JP NZ,nn` (R282). -/
def execJpNzNn (nn : Word) (s : State) : Result := branch .nz (s.setPc nn) 16 12 s

/-- `JP nn` (R281). -/
def execJpNn (nn : Word) (s : State) : Result := .next ((s.setPc nn).report 16)

/-- `CALL NZ,nn` (R287). -/
def execCallNzNn (nn : Word) (s : State) : Result := branch .nz (s.call nn) 24 12 s

/-- `RST 00H` (R291). -/
def execRst00 (s : State) : Result := .next ((s.call 0x00).report 16)

/-- `RET Z` (R289). -/
def execRetZ (s : State) : Result := branch .z s.ret 20 8 s

/-- `RET` (R288). -/
def execRet (s : State) : Result := .next (s.ret.report 16)

/-- `JP Z,nn` (R282). -/
def execJpZNn (nn : Word) (s : State) : Result := branch .z (s.setPc nn) 16 12 s

/-- `CALL Z,nn` (R287). -/
def execCallZNn (nn : Word) (s : State) : Result := branch .z (s.call nn) 24 12 s

/-- `CALL nn` (R286). -/
def execCallNn (nn : Word) (s : State) : Result := .next ((s.call nn).report 24)

/-- `RST 08H` (R291). -/
def execRst08 (s : State) : Result := .next ((s.call 0x08).report 16)

/-- `RET NC` (R289). -/
def execRetNc (s : State) : Result := branch .nc s.ret 20 8 s

/-- `JP NC,nn` (R282). -/
def execJpNcNn (nn : Word) (s : State) : Result := branch .nc (s.setPc nn) 16 12 s

/-- `CALL NC,nn` (R287). -/
def execCallNcNn (nn : Word) (s : State) : Result := branch .nc (s.call nn) 24 12 s

/-- `RST 10H` (R291). -/
def execRst10 (s : State) : Result := .next ((s.call 0x10).report 16)

/-- `RET C` (R289). -/
def execRetC (s : State) : Result := branch .c s.ret 20 8 s

/-- `RETI` (R290). -/
def execReti (s : State) : Result := .next (s.returnFromInterrupt.report 16)

/-- `JP C,nn` (R282). -/
def execJpCNn (nn : Word) (s : State) : Result := branch .c (s.setPc nn) 16 12 s

/-- `CALL C,nn` (R287). -/
def execCallCNn (nn : Word) (s : State) : Result := branch .c (s.call nn) 24 12 s

/-- `RST 18H` (R291). -/
def execRst18 (s : State) : Result := .next ((s.call 0x18).report 16)

/-- `RST 20H` (R291). -/
def execRst20 (s : State) : Result := .next ((s.call 0x20).report 16)

/-- `JP HL` (R283). -/
def execJpHl (s : State) : Result := .next ((s.setPc s.hl).report 4)

/-- `RST 28H` (R291). -/
def execRst28 (s : State) : Result := .next ((s.call 0x28).report 16)

/-- `RST 30H` (R291). -/
def execRst30 (s : State) : Result := .next ((s.call 0x30).report 16)

/-- `RST 38H` (R291). -/
def execRst38 (s : State) : Result := .next ((s.call 0x38).report 16)

end Sys2Proof.Machine
end

