-- ==== Sys2Proof/Machine/Load16.lean ====
section
/-! DEFINITION. 16-bit loads and the stack instructions (41_load16.md). -/

namespace Sys2Proof.Machine

/-- PUSH (R165). -/
def push (q : StackPair) (s : State) : Result := .next ((s.push16 (s.stackPair q)).report 16)

/-- POP (R166). -/
def pop (q : StackPair) (s : State) : Result :=
  .next ((s.afterPop16.setStackPair q s.popped16).report 12)

/-- `LD BC,nn` (R161). -/
def execLdBcNn (nn : Word) (s : State) : Result := .next ((s.setReg16 .bc nn).report 12)

/-- `LD (nn),SP` (R163). -/
def execLdAtNnSp (nn : Word) (s : State) : Result :=
  .next (((s.busWrite nn (loByte s.cpu.sp)).busWrite (nn + 1) (hiByte s.cpu.sp)).report 20)

/-- `LD DE,nn` (R161). -/
def execLdDeNn (nn : Word) (s : State) : Result := .next ((s.setReg16 .de nn).report 12)

/-- `LD HL,nn` (R161). -/
def execLdHlNn (nn : Word) (s : State) : Result := .next ((s.setReg16 .hl nn).report 12)

/-- `LD SP,nn` (R161). -/
def execLdSpNn (nn : Word) (s : State) : Result := .next ((s.setReg16 .sp nn).report 12)

/-- `POP BC` (R166). -/
def execPopBc (s : State) : Result := pop .bc s

/-- `PUSH BC` (R165). -/
def execPushBc (s : State) : Result := push .bc s

/-- `POP DE` (R166). -/
def execPopDe (s : State) : Result := pop .de s

/-- `PUSH DE` (R165). -/
def execPushDe (s : State) : Result := push .de s

/-- `POP HL` (R166). -/
def execPopHl (s : State) : Result := pop .hl s

/-- `PUSH HL` (R165). -/
def execPushHl (s : State) : Result := push .hl s

/-- `POP AF` (R166). -/
def execPopAf (s : State) : Result := pop .af s

/-- `PUSH AF` (R165). -/
def execPushAf (s : State) : Result := push .af s

/-- `LD HL,SP+e` (R164). -/
def execLdHlSpE (e : Byte) (s : State) : Result :=
  .next ((((s.setHl (spPlus s.cpu.sp e).1).setFlags (spPlus s.cpu.sp e).2)).report 12)

/-- `LD SP,HL` (R162). -/
def execLdSpHl (s : State) : Result := .next ((s.setSp s.hl).report 8)

end Sys2Proof.Machine
end

