-- ==== Sys2Proof/Machine/Load8.lean ====
section
/-! DEFINITION. 8-bit loads (40_load8.md). PC already points past the instruction (R130). -/

namespace Sys2Proof.Machine

/-- A load of a register from memory (R133, R136, R137, R140, R142, R144). -/
def loadFrom (r : Reg8) (addr : Word) (cost : Nat) (s : State) : Result :=
  .next (((s.afterRead addr).setReg r (s.busRead addr)).report cost)

/-- A store of a byte to memory (R134, R135, R138, R139, R141, R143, R145). -/
def storeTo (addr : Word) (v : Byte) (cost : Nat) (s : State) : Result :=
  .next ((s.busWrite addr v).report cost)

/-- A load of A from the byte at HL, which then moves by `step` (R146, R147). -/
def loadStep (step : Word) (s : State) : Result :=
  .next ((((s.afterRead s.hl).setReg .a (s.busRead s.hl)).setHl (s.hl + step)).report 8)

/-- A store of A to the byte at HL, which then moves by `step` (R148, R149). -/
def storeStep (step : Word) (s : State) : Result :=
  .next (((s.busWrite s.hl s.cpu.a).setHl (s.hl + step)).report 8)

/-- `LD (BC),A` (R138). -/
def execLdAtBcA (s : State) : Result := storeTo s.bc (s.reg .a) 8 s

/-- `LD B,n` (R132). -/
def execLdBN (n : Byte) (s : State) : Result := .next ((s.setReg .b n).report 8)

/-- `LD A,(BC)` (R136). -/
def execLdAAtBc (s : State) : Result := loadFrom .a s.bc 8 s

/-- `LD C,n` (R132). -/
def execLdCN (n : Byte) (s : State) : Result := .next ((s.setReg .c n).report 8)

/-- `LD (DE),A` (R139). -/
def execLdAtDeA (s : State) : Result := storeTo s.de (s.reg .a) 8 s

/-- `LD D,n` (R132). -/
def execLdDN (n : Byte) (s : State) : Result := .next ((s.setReg .d n).report 8)

/-- `LD A,(DE)` (R137). -/
def execLdAAtDe (s : State) : Result := loadFrom .a s.de 8 s

/-- `LD E,n` (R132). -/
def execLdEN (n : Byte) (s : State) : Result := .next ((s.setReg .e n).report 8)

/-- `LD (HL+),A` (R148). -/
def execLdAtHlIncA (s : State) : Result := storeStep 1 s

/-- `LD H,n` (R132). -/
def execLdHN (n : Byte) (s : State) : Result := .next ((s.setReg .h n).report 8)

/-- `LD A,(HL+)` (R146). -/
def execLdAAtHlInc (s : State) : Result := loadStep 1 s

/-- `LD L,n` (R132). -/
def execLdLN (n : Byte) (s : State) : Result := .next ((s.setReg .l n).report 8)

/-- `LD (HL-),A` (R149). -/
def execLdAtHlDecA (s : State) : Result := storeStep (-1) s

/-- `LD (HL),n` (R135). -/
def execLdAtHlN (n : Byte) (s : State) : Result := storeTo s.hl n 12 s

/-- `LD A,(HL-)` (R147). -/
def execLdAAtHlDec (s : State) : Result := loadStep (-1) s

/-- `LD A,n` (R132). -/
def execLdAN (n : Byte) (s : State) : Result := .next ((s.setReg .a n).report 8)

/-- `LD B,B` (R131). -/
def execLdBB (s : State) : Result := .next ((s.setReg .b (s.reg .b)).report 4)

/-- `LD B,C` (R131). -/
def execLdBC (s : State) : Result := .next ((s.setReg .b (s.reg .c)).report 4)

/-- `LD B,D` (R131). -/
def execLdBD (s : State) : Result := .next ((s.setReg .b (s.reg .d)).report 4)

/-- `LD B,E` (R131). -/
def execLdBE (s : State) : Result := .next ((s.setReg .b (s.reg .e)).report 4)

/-- `LD B,H` (R131). -/
def execLdBH (s : State) : Result := .next ((s.setReg .b (s.reg .h)).report 4)

/-- `LD B,L` (R131). -/
def execLdBL (s : State) : Result := .next ((s.setReg .b (s.reg .l)).report 4)

/-- `LD B,(HL)` (R133). -/
def execLdBAtHl (s : State) : Result := loadFrom .b s.hl 8 s

/-- `LD B,A` (R131). -/
def execLdBA (s : State) : Result := .next ((s.setReg .b (s.reg .a)).report 4)

/-- `LD C,B` (R131). -/
def execLdCB (s : State) : Result := .next ((s.setReg .c (s.reg .b)).report 4)

/-- `LD C,C` (R131). -/
def execLdCC (s : State) : Result := .next ((s.setReg .c (s.reg .c)).report 4)

/-- `LD C,D` (R131). -/
def execLdCD (s : State) : Result := .next ((s.setReg .c (s.reg .d)).report 4)

/-- `LD C,E` (R131). -/
def execLdCE (s : State) : Result := .next ((s.setReg .c (s.reg .e)).report 4)

/-- `LD C,H` (R131). -/
def execLdCH (s : State) : Result := .next ((s.setReg .c (s.reg .h)).report 4)

/-- `LD C,L` (R131). -/
def execLdCL (s : State) : Result := .next ((s.setReg .c (s.reg .l)).report 4)

/-- `LD C,(HL)` (R133). -/
def execLdCAtHl (s : State) : Result := loadFrom .c s.hl 8 s

/-- `LD C,A` (R131). -/
def execLdCA (s : State) : Result := .next ((s.setReg .c (s.reg .a)).report 4)

/-- `LD D,B` (R131). -/
def execLdDB (s : State) : Result := .next ((s.setReg .d (s.reg .b)).report 4)

/-- `LD D,C` (R131). -/
def execLdDC (s : State) : Result := .next ((s.setReg .d (s.reg .c)).report 4)

/-- `LD D,D` (R131). -/
def execLdDD (s : State) : Result := .next ((s.setReg .d (s.reg .d)).report 4)

/-- `LD D,E` (R131). -/
def execLdDE (s : State) : Result := .next ((s.setReg .d (s.reg .e)).report 4)

/-- `LD D,H` (R131). -/
def execLdDH (s : State) : Result := .next ((s.setReg .d (s.reg .h)).report 4)

/-- `LD D,L` (R131). -/
def execLdDL (s : State) : Result := .next ((s.setReg .d (s.reg .l)).report 4)

/-- `LD D,(HL)` (R133). -/
def execLdDAtHl (s : State) : Result := loadFrom .d s.hl 8 s

/-- `LD D,A` (R131). -/
def execLdDA (s : State) : Result := .next ((s.setReg .d (s.reg .a)).report 4)

/-- `LD E,B` (R131). -/
def execLdEB (s : State) : Result := .next ((s.setReg .e (s.reg .b)).report 4)

/-- `LD E,C` (R131). -/
def execLdEC (s : State) : Result := .next ((s.setReg .e (s.reg .c)).report 4)

/-- `LD E,D` (R131). -/
def execLdED (s : State) : Result := .next ((s.setReg .e (s.reg .d)).report 4)

/-- `LD E,E` (R131). -/
def execLdEE (s : State) : Result := .next ((s.setReg .e (s.reg .e)).report 4)

/-- `LD E,H` (R131). -/
def execLdEH (s : State) : Result := .next ((s.setReg .e (s.reg .h)).report 4)

/-- `LD E,L` (R131). -/
def execLdEL (s : State) : Result := .next ((s.setReg .e (s.reg .l)).report 4)

/-- `LD E,(HL)` (R133). -/
def execLdEAtHl (s : State) : Result := loadFrom .e s.hl 8 s

/-- `LD E,A` (R131). -/
def execLdEA (s : State) : Result := .next ((s.setReg .e (s.reg .a)).report 4)

/-- `LD H,B` (R131). -/
def execLdHB (s : State) : Result := .next ((s.setReg .h (s.reg .b)).report 4)

/-- `LD H,C` (R131). -/
def execLdHC (s : State) : Result := .next ((s.setReg .h (s.reg .c)).report 4)

/-- `LD H,D` (R131). -/
def execLdHD (s : State) : Result := .next ((s.setReg .h (s.reg .d)).report 4)

/-- `LD H,E` (R131). -/
def execLdHE (s : State) : Result := .next ((s.setReg .h (s.reg .e)).report 4)

/-- `LD H,H` (R131). -/
def execLdHH (s : State) : Result := .next ((s.setReg .h (s.reg .h)).report 4)

/-- `LD H,L` (R131). -/
def execLdHL (s : State) : Result := .next ((s.setReg .h (s.reg .l)).report 4)

/-- `LD H,(HL)` (R133). -/
def execLdHAtHl (s : State) : Result := loadFrom .h s.hl 8 s

/-- `LD H,A` (R131). -/
def execLdHA (s : State) : Result := .next ((s.setReg .h (s.reg .a)).report 4)

/-- `LD L,B` (R131). -/
def execLdLB (s : State) : Result := .next ((s.setReg .l (s.reg .b)).report 4)

/-- `LD L,C` (R131). -/
def execLdLC (s : State) : Result := .next ((s.setReg .l (s.reg .c)).report 4)

/-- `LD L,D` (R131). -/
def execLdLD (s : State) : Result := .next ((s.setReg .l (s.reg .d)).report 4)

/-- `LD L,E` (R131). -/
def execLdLE (s : State) : Result := .next ((s.setReg .l (s.reg .e)).report 4)

/-- `LD L,H` (R131). -/
def execLdLH (s : State) : Result := .next ((s.setReg .l (s.reg .h)).report 4)

/-- `LD L,L` (R131). -/
def execLdLL (s : State) : Result := .next ((s.setReg .l (s.reg .l)).report 4)

/-- `LD L,(HL)` (R133). -/
def execLdLAtHl (s : State) : Result := loadFrom .l s.hl 8 s

/-- `LD L,A` (R131). -/
def execLdLA (s : State) : Result := .next ((s.setReg .l (s.reg .a)).report 4)

/-- `LD (HL),B` (R134). -/
def execLdAtHlB (s : State) : Result := storeTo s.hl (s.reg .b) 8 s

/-- `LD (HL),C` (R134). -/
def execLdAtHlC (s : State) : Result := storeTo s.hl (s.reg .c) 8 s

/-- `LD (HL),D` (R134). -/
def execLdAtHlD (s : State) : Result := storeTo s.hl (s.reg .d) 8 s

/-- `LD (HL),E` (R134). -/
def execLdAtHlE (s : State) : Result := storeTo s.hl (s.reg .e) 8 s

/-- `LD (HL),H` (R134). -/
def execLdAtHlH (s : State) : Result := storeTo s.hl (s.reg .h) 8 s

/-- `LD (HL),L` (R134). -/
def execLdAtHlL (s : State) : Result := storeTo s.hl (s.reg .l) 8 s

/-- `LD (HL),A` (R134). -/
def execLdAtHlA (s : State) : Result := storeTo s.hl (s.reg .a) 8 s

/-- `LD A,B` (R131). -/
def execLdAB (s : State) : Result := .next ((s.setReg .a (s.reg .b)).report 4)

/-- `LD A,C` (R131). -/
def execLdAC (s : State) : Result := .next ((s.setReg .a (s.reg .c)).report 4)

/-- `LD A,D` (R131). -/
def execLdAD (s : State) : Result := .next ((s.setReg .a (s.reg .d)).report 4)

/-- `LD A,E` (R131). -/
def execLdAE (s : State) : Result := .next ((s.setReg .a (s.reg .e)).report 4)

/-- `LD A,H` (R131). -/
def execLdAH (s : State) : Result := .next ((s.setReg .a (s.reg .h)).report 4)

/-- `LD A,L` (R131). -/
def execLdAL (s : State) : Result := .next ((s.setReg .a (s.reg .l)).report 4)

/-- `LD A,(HL)` (R133). -/
def execLdAAtHl (s : State) : Result := loadFrom .a s.hl 8 s

/-- `LD A,A` (R131). -/
def execLdAA (s : State) : Result := .next ((s.setReg .a (s.reg .a)).report 4)

/-- `LDH (n),A` (R143). -/
def execLdhAtNA (n : Byte) (s : State) : Result := storeTo (highPage n) (s.reg .a) 12 s

/-- `LDH (C),A` (R145). -/
def execLdhAtCA (s : State) : Result := storeTo (highPage s.cpu.c) (s.reg .a) 8 s

/-- `LD (nn),A` (R141). -/
def execLdAtNnA (nn : Word) (s : State) : Result := storeTo nn (s.reg .a) 16 s

/-- `LDH A,(n)` (R142). -/
def execLdhAAtN (n : Byte) (s : State) : Result := loadFrom .a (highPage n) 12 s

/-- `LDH A,(C)` (R144). -/
def execLdhAAtC (s : State) : Result := loadFrom .a (highPage s.cpu.c) 8 s

/-- `LD A,(nn)` (R140). -/
def execLdAAtNn (nn : Word) (s : State) : Result := loadFrom .a nn 16 s

end Sys2Proof.Machine
end

