-- ==== Sys2Proof/Machine/Misc.lean ====
section
/-! DEFINITION. NOP, HALT, STOP, DI, EI and the illegal bytes (46_misc.md). -/

namespace Sys2Proof.Machine

/-- The Operation of R301 less its cost: with `HALT_BUG`, IME = 0 and an enabled request pending the
machine does not halt and the next `Fetch8` does not advance PC. -/
def State.haltOperation (s : State) : State :=
  if s.cfg.haltBug ∧ s.cpu.ime = false ∧ s.pending ≠ 0 then s.setLatch true else s.setHalted true

/-- The Operation of R304 less its cost: IME is set before the next instruction, not now. -/
def State.enableLater (s : State) : State := if s.cpu.ime then s else s.setIme false true

/-- `NOP` (R300). -/
def execNop (s : State) : Result := .next (s.report 4)

/-- `STOP` (R302). -/
def execStop (_pad : Byte) (s : State) : Result := .next (s.haltOperation.report 4)

/-- `HALT` (R301). -/
def execHalt (s : State) : Result := .next (s.haltOperation.report 4)

/-- The illegal bytes (R305). -/
def execIllegal (op : Byte) (s : State) : Result := .fault (.illegalOpcode s.opAddr op)

/-- `DI` (R303). -/
def execDi (s : State) : Result := .next ((s.setIme false false).report 4)

/-- `EI` (R304). -/
def execEi (s : State) : Result := .next (s.enableLater.report 4)

end Sys2Proof.Machine
end

