-- ==== Sys2Proof/Machine/Rotate.lean ====
section
/-! DEFINITION. Rotates, shifts, the bit instructions and the 0xCB prefix (44_rotate_shift_bit.md). -/

namespace Sys2Proof.Machine

/-- RLCA, RRCA, RLA, RRA (R241 to R244): Z always cleared. -/
def rotateA (op : RotOp) (s : State) : Result :=
  let r := op.apply s.cpu.a s.cpu.f.c
  .next ((s.setAF r.1 (rotAFlags r.2)).report 4)

/-- The state after a CB rotate or shift (R246 to R261): one read, one write, the flags. -/
def State.rotated (s : State) (op : RotOp) (o : Operand8) : State :=
  let r := op.apply (s.operand o) s.cpu.f.c
  (((s.afterOperand o).setOperand o r.1).setFlags (rotFlags r.1 r.2)).report (o.cost 8 16)

/-- The state after BIT (R262, R263): nothing but the flags is written. -/
def State.bitTested (s : State) (b : BitIndex) (o : Operand8) : State :=
  ((s.afterOperand o).setFlags (bitFlags (s.operand o) b s.cpu.f)).report (o.cost 8 12)

/-- The state after RES (R264, R265). -/
def State.bitReset (s : State) (b : BitIndex) (o : Operand8) : State :=
  ((s.afterOperand o).setOperand o (s.operand o &&& ~~~bitMask b)).report (o.cost 8 16)

/-- The state after SET (R266, R267). -/
def State.bitSet (s : State) (b : BitIndex) (o : Operand8) : State :=
  ((s.afterOperand o).setOperand o (s.operand o ||| bitMask b)).report (o.cost 8 16)

/-- The instruction the second byte `op2` selects, by its fields x, y, z (30_encoding.md R101, R113). -/
def State.cbOperation (s : State) (op2 : Byte) : State :=
  let y := op2.extractLsb' 3 3
  let o := Operand8.ofCode (op2.extractLsb' 0 3)
  match (op2.extractLsb' 6 2).toNat with
  | 0 => s.rotated (RotOp.ofCode y) o
  | 1 => s.bitTested y o
  | 2 => s.bitReset y o
  | _ => s.bitSet y o

/-- `RLCA` (R241). -/
def execRlca (s : State) : Result := rotateA .rlc s

/-- `RRCA` (R243). -/
def execRrca (s : State) : Result := rotateA .rrc s

/-- `RLA` (R242). -/
def execRla (s : State) : Result := rotateA .rl s

/-- `RRA` (R244). -/
def execRra (s : State) : Result := rotateA .rr s

/-- The prefix 0xCB taken alone: it fetches the second byte and performs the instruction that byte selects (R245). -/
def execPrefixCb (s : State) : Result := .next (s.afterFetch8.cbOperation (s.busRead s.cpu.pc))

/-- `RLC B` (R246). -/
def execRlcB (s : State) : Result := .next (s.rotated .rlc (.reg .b))

/-- `RLC C` (R246). -/
def execRlcC (s : State) : Result := .next (s.rotated .rlc (.reg .c))

/-- `RLC D` (R246). -/
def execRlcD (s : State) : Result := .next (s.rotated .rlc (.reg .d))

/-- `RLC E` (R246). -/
def execRlcE (s : State) : Result := .next (s.rotated .rlc (.reg .e))

/-- `RLC H` (R246). -/
def execRlcH (s : State) : Result := .next (s.rotated .rlc (.reg .h))

/-- `RLC L` (R246). -/
def execRlcL (s : State) : Result := .next (s.rotated .rlc (.reg .l))

/-- `RLC (HL)` (R247). -/
def execRlcAtHl (s : State) : Result := .next (s.rotated .rlc .atHl)

/-- `RLC A` (R246). -/
def execRlcA (s : State) : Result := .next (s.rotated .rlc (.reg .a))

/-- `RRC B` (R248). -/
def execRrcB (s : State) : Result := .next (s.rotated .rrc (.reg .b))

/-- `RRC C` (R248). -/
def execRrcC (s : State) : Result := .next (s.rotated .rrc (.reg .c))

/-- `RRC D` (R248). -/
def execRrcD (s : State) : Result := .next (s.rotated .rrc (.reg .d))

/-- `RRC E` (R248). -/
def execRrcE (s : State) : Result := .next (s.rotated .rrc (.reg .e))

/-- `RRC H` (R248). -/
def execRrcH (s : State) : Result := .next (s.rotated .rrc (.reg .h))

/-- `RRC L` (R248). -/
def execRrcL (s : State) : Result := .next (s.rotated .rrc (.reg .l))

/-- `RRC (HL)` (R249). -/
def execRrcAtHl (s : State) : Result := .next (s.rotated .rrc .atHl)

/-- `RRC A` (R248). -/
def execRrcA (s : State) : Result := .next (s.rotated .rrc (.reg .a))

/-- `RL B` (R250). -/
def execRlB (s : State) : Result := .next (s.rotated .rl (.reg .b))

/-- `RL C` (R250). -/
def execRlC (s : State) : Result := .next (s.rotated .rl (.reg .c))

/-- `RL D` (R250). -/
def execRlD (s : State) : Result := .next (s.rotated .rl (.reg .d))

/-- `RL E` (R250). -/
def execRlE (s : State) : Result := .next (s.rotated .rl (.reg .e))

/-- `RL H` (R250). -/
def execRlH (s : State) : Result := .next (s.rotated .rl (.reg .h))

/-- `RL L` (R250). -/
def execRlL (s : State) : Result := .next (s.rotated .rl (.reg .l))

/-- `RL (HL)` (R251). -/
def execRlAtHl (s : State) : Result := .next (s.rotated .rl .atHl)

/-- `RL A` (R250). -/
def execRlA (s : State) : Result := .next (s.rotated .rl (.reg .a))

/-- `RR B` (R252). -/
def execRrB (s : State) : Result := .next (s.rotated .rr (.reg .b))

/-- `RR C` (R252). -/
def execRrC (s : State) : Result := .next (s.rotated .rr (.reg .c))

/-- `RR D` (R252). -/
def execRrD (s : State) : Result := .next (s.rotated .rr (.reg .d))

/-- `RR E` (R252). -/
def execRrE (s : State) : Result := .next (s.rotated .rr (.reg .e))

/-- `RR H` (R252). -/
def execRrH (s : State) : Result := .next (s.rotated .rr (.reg .h))

/-- `RR L` (R252). -/
def execRrL (s : State) : Result := .next (s.rotated .rr (.reg .l))

/-- `RR (HL)` (R253). -/
def execRrAtHl (s : State) : Result := .next (s.rotated .rr .atHl)

/-- `RR A` (R252). -/
def execRrA (s : State) : Result := .next (s.rotated .rr (.reg .a))

/-- `SLA B` (R254). -/
def execSlaB (s : State) : Result := .next (s.rotated .sla (.reg .b))

/-- `SLA C` (R254). -/
def execSlaC (s : State) : Result := .next (s.rotated .sla (.reg .c))

/-- `SLA D` (R254). -/
def execSlaD (s : State) : Result := .next (s.rotated .sla (.reg .d))

/-- `SLA E` (R254). -/
def execSlaE (s : State) : Result := .next (s.rotated .sla (.reg .e))

/-- `SLA H` (R254). -/
def execSlaH (s : State) : Result := .next (s.rotated .sla (.reg .h))

/-- `SLA L` (R254). -/
def execSlaL (s : State) : Result := .next (s.rotated .sla (.reg .l))

/-- `SLA (HL)` (R255). -/
def execSlaAtHl (s : State) : Result := .next (s.rotated .sla .atHl)

/-- `SLA A` (R254). -/
def execSlaA (s : State) : Result := .next (s.rotated .sla (.reg .a))

/-- `SRA B` (R256). -/
def execSraB (s : State) : Result := .next (s.rotated .sra (.reg .b))

/-- `SRA C` (R256). -/
def execSraC (s : State) : Result := .next (s.rotated .sra (.reg .c))

/-- `SRA D` (R256). -/
def execSraD (s : State) : Result := .next (s.rotated .sra (.reg .d))

/-- `SRA E` (R256). -/
def execSraE (s : State) : Result := .next (s.rotated .sra (.reg .e))

/-- `SRA H` (R256). -/
def execSraH (s : State) : Result := .next (s.rotated .sra (.reg .h))

/-- `SRA L` (R256). -/
def execSraL (s : State) : Result := .next (s.rotated .sra (.reg .l))

/-- `SRA (HL)` (R257). -/
def execSraAtHl (s : State) : Result := .next (s.rotated .sra .atHl)

/-- `SRA A` (R256). -/
def execSraA (s : State) : Result := .next (s.rotated .sra (.reg .a))

/-- `SWAP B` (R258). -/
def execSwapB (s : State) : Result := .next (s.rotated .swap (.reg .b))

/-- `SWAP C` (R258). -/
def execSwapC (s : State) : Result := .next (s.rotated .swap (.reg .c))

/-- `SWAP D` (R258). -/
def execSwapD (s : State) : Result := .next (s.rotated .swap (.reg .d))

/-- `SWAP E` (R258). -/
def execSwapE (s : State) : Result := .next (s.rotated .swap (.reg .e))

/-- `SWAP H` (R258). -/
def execSwapH (s : State) : Result := .next (s.rotated .swap (.reg .h))

/-- `SWAP L` (R258). -/
def execSwapL (s : State) : Result := .next (s.rotated .swap (.reg .l))

/-- `SWAP (HL)` (R259). -/
def execSwapAtHl (s : State) : Result := .next (s.rotated .swap .atHl)

/-- `SWAP A` (R258). -/
def execSwapA (s : State) : Result := .next (s.rotated .swap (.reg .a))

/-- `SRL B` (R260). -/
def execSrlB (s : State) : Result := .next (s.rotated .srl (.reg .b))

/-- `SRL C` (R260). -/
def execSrlC (s : State) : Result := .next (s.rotated .srl (.reg .c))

/-- `SRL D` (R260). -/
def execSrlD (s : State) : Result := .next (s.rotated .srl (.reg .d))

/-- `SRL E` (R260). -/
def execSrlE (s : State) : Result := .next (s.rotated .srl (.reg .e))

/-- `SRL H` (R260). -/
def execSrlH (s : State) : Result := .next (s.rotated .srl (.reg .h))

/-- `SRL L` (R260). -/
def execSrlL (s : State) : Result := .next (s.rotated .srl (.reg .l))

/-- `SRL (HL)` (R261). -/
def execSrlAtHl (s : State) : Result := .next (s.rotated .srl .atHl)

/-- `SRL A` (R260). -/
def execSrlA (s : State) : Result := .next (s.rotated .srl (.reg .a))

/-- `BIT b,B` (R262). -/
def execBitB (b : BitIndex) (s : State) : Result := .next (s.bitTested b (.reg .b))

/-- `BIT b,C` (R262). -/
def execBitC (b : BitIndex) (s : State) : Result := .next (s.bitTested b (.reg .c))

/-- `BIT b,D` (R262). -/
def execBitD (b : BitIndex) (s : State) : Result := .next (s.bitTested b (.reg .d))

/-- `BIT b,E` (R262). -/
def execBitE (b : BitIndex) (s : State) : Result := .next (s.bitTested b (.reg .e))

/-- `BIT b,H` (R262). -/
def execBitH (b : BitIndex) (s : State) : Result := .next (s.bitTested b (.reg .h))

/-- `BIT b,L` (R262). -/
def execBitL (b : BitIndex) (s : State) : Result := .next (s.bitTested b (.reg .l))

/-- `BIT b,(HL)` (R263). -/
def execBitAtHl (b : BitIndex) (s : State) : Result := .next (s.bitTested b .atHl)

/-- `BIT b,A` (R262). -/
def execBitA (b : BitIndex) (s : State) : Result := .next (s.bitTested b (.reg .a))

/-- `RES b,B` (R264). -/
def execResB (b : BitIndex) (s : State) : Result := .next (s.bitReset b (.reg .b))

/-- `RES b,C` (R264). -/
def execResC (b : BitIndex) (s : State) : Result := .next (s.bitReset b (.reg .c))

/-- `RES b,D` (R264). -/
def execResD (b : BitIndex) (s : State) : Result := .next (s.bitReset b (.reg .d))

/-- `RES b,E` (R264). -/
def execResE (b : BitIndex) (s : State) : Result := .next (s.bitReset b (.reg .e))

/-- `RES b,H` (R264). -/
def execResH (b : BitIndex) (s : State) : Result := .next (s.bitReset b (.reg .h))

/-- `RES b,L` (R264). -/
def execResL (b : BitIndex) (s : State) : Result := .next (s.bitReset b (.reg .l))

/-- `RES b,(HL)` (R265). -/
def execResAtHl (b : BitIndex) (s : State) : Result := .next (s.bitReset b .atHl)

/-- `RES b,A` (R264). -/
def execResA (b : BitIndex) (s : State) : Result := .next (s.bitReset b (.reg .a))

/-- `SET b,B` (R266). -/
def execSetB (b : BitIndex) (s : State) : Result := .next (s.bitSet b (.reg .b))

/-- `SET b,C` (R266). -/
def execSetC (b : BitIndex) (s : State) : Result := .next (s.bitSet b (.reg .c))

/-- `SET b,D` (R266). -/
def execSetD (b : BitIndex) (s : State) : Result := .next (s.bitSet b (.reg .d))

/-- `SET b,E` (R266). -/
def execSetE (b : BitIndex) (s : State) : Result := .next (s.bitSet b (.reg .e))

/-- `SET b,H` (R266). -/
def execSetH (b : BitIndex) (s : State) : Result := .next (s.bitSet b (.reg .h))

/-- `SET b,L` (R266). -/
def execSetL (b : BitIndex) (s : State) : Result := .next (s.bitSet b (.reg .l))

/-- `SET b,(HL)` (R267). -/
def execSetAtHl (b : BitIndex) (s : State) : Result := .next (s.bitSet b .atHl)

/-- `SET b,A` (R266). -/
def execSetA (b : BitIndex) (s : State) : Result := .next (s.bitSet b (.reg .a))

end Sys2Proof.Machine
end

