-- ==== Sys2Proof/Machine/Dispatch.lean ====
section
/-! DEFINITION. One arm per instruction, each one call of its meaning. -/

namespace Sys2Proof.Machine

def exec (i : Instr) (s : State) : Host.Outcome State Fault Refusal :=
  match i with
  -- 8-bit loads
  | .ldAtBcA => Sys2Proof.Machine.execLdAtBcA s
  | .ldBN n => Sys2Proof.Machine.execLdBN n s
  | .ldAAtBc => Sys2Proof.Machine.execLdAAtBc s
  | .ldCN n => Sys2Proof.Machine.execLdCN n s
  | .ldAtDeA => Sys2Proof.Machine.execLdAtDeA s
  | .ldDN n => Sys2Proof.Machine.execLdDN n s
  | .ldAAtDe => Sys2Proof.Machine.execLdAAtDe s
  | .ldEN n => Sys2Proof.Machine.execLdEN n s
  | .ldAtHlIncA => Sys2Proof.Machine.execLdAtHlIncA s
  | .ldHN n => Sys2Proof.Machine.execLdHN n s
  | .ldAAtHlInc => Sys2Proof.Machine.execLdAAtHlInc s
  | .ldLN n => Sys2Proof.Machine.execLdLN n s
  | .ldAtHlDecA => Sys2Proof.Machine.execLdAtHlDecA s
  | .ldAtHlN n => Sys2Proof.Machine.execLdAtHlN n s
  | .ldAAtHlDec => Sys2Proof.Machine.execLdAAtHlDec s
  | .ldAN n => Sys2Proof.Machine.execLdAN n s
  | .ldBB => Sys2Proof.Machine.execLdBB s
  | .ldBC => Sys2Proof.Machine.execLdBC s
  | .ldBD => Sys2Proof.Machine.execLdBD s
  | .ldBE => Sys2Proof.Machine.execLdBE s
  | .ldBH => Sys2Proof.Machine.execLdBH s
  | .ldBL => Sys2Proof.Machine.execLdBL s
  | .ldBAtHl => Sys2Proof.Machine.execLdBAtHl s
  | .ldBA => Sys2Proof.Machine.execLdBA s
  | .ldCB => Sys2Proof.Machine.execLdCB s
  | .ldCC => Sys2Proof.Machine.execLdCC s
  | .ldCD => Sys2Proof.Machine.execLdCD s
  | .ldCE => Sys2Proof.Machine.execLdCE s
  | .ldCH => Sys2Proof.Machine.execLdCH s
  | .ldCL => Sys2Proof.Machine.execLdCL s
  | .ldCAtHl => Sys2Proof.Machine.execLdCAtHl s
  | .ldCA => Sys2Proof.Machine.execLdCA s
  | .ldDB => Sys2Proof.Machine.execLdDB s
  | .ldDC => Sys2Proof.Machine.execLdDC s
  | .ldDD => Sys2Proof.Machine.execLdDD s
  | .ldDE => Sys2Proof.Machine.execLdDE s
  | .ldDH => Sys2Proof.Machine.execLdDH s
  | .ldDL => Sys2Proof.Machine.execLdDL s
  | .ldDAtHl => Sys2Proof.Machine.execLdDAtHl s
  | .ldDA => Sys2Proof.Machine.execLdDA s
  | .ldEB => Sys2Proof.Machine.execLdEB s
  | .ldEC => Sys2Proof.Machine.execLdEC s
  | .ldED => Sys2Proof.Machine.execLdED s
  | .ldEE => Sys2Proof.Machine.execLdEE s
  | .ldEH => Sys2Proof.Machine.execLdEH s
  | .ldEL => Sys2Proof.Machine.execLdEL s
  | .ldEAtHl => Sys2Proof.Machine.execLdEAtHl s
  | .ldEA => Sys2Proof.Machine.execLdEA s
  | .ldHB => Sys2Proof.Machine.execLdHB s
  | .ldHC => Sys2Proof.Machine.execLdHC s
  | .ldHD => Sys2Proof.Machine.execLdHD s
  | .ldHE => Sys2Proof.Machine.execLdHE s
  | .ldHH => Sys2Proof.Machine.execLdHH s
  | .ldHL => Sys2Proof.Machine.execLdHL s
  | .ldHAtHl => Sys2Proof.Machine.execLdHAtHl s
  | .ldHA => Sys2Proof.Machine.execLdHA s
  | .ldLB => Sys2Proof.Machine.execLdLB s
  | .ldLC => Sys2Proof.Machine.execLdLC s
  | .ldLD => Sys2Proof.Machine.execLdLD s
  | .ldLE => Sys2Proof.Machine.execLdLE s
  | .ldLH => Sys2Proof.Machine.execLdLH s
  | .ldLL => Sys2Proof.Machine.execLdLL s
  | .ldLAtHl => Sys2Proof.Machine.execLdLAtHl s
  | .ldLA => Sys2Proof.Machine.execLdLA s
  | .ldAtHlB => Sys2Proof.Machine.execLdAtHlB s
  | .ldAtHlC => Sys2Proof.Machine.execLdAtHlC s
  | .ldAtHlD => Sys2Proof.Machine.execLdAtHlD s
  | .ldAtHlE => Sys2Proof.Machine.execLdAtHlE s
  | .ldAtHlH => Sys2Proof.Machine.execLdAtHlH s
  | .ldAtHlL => Sys2Proof.Machine.execLdAtHlL s
  | .ldAtHlA => Sys2Proof.Machine.execLdAtHlA s
  | .ldAB => Sys2Proof.Machine.execLdAB s
  | .ldAC => Sys2Proof.Machine.execLdAC s
  | .ldAD => Sys2Proof.Machine.execLdAD s
  | .ldAE => Sys2Proof.Machine.execLdAE s
  | .ldAH => Sys2Proof.Machine.execLdAH s
  | .ldAL => Sys2Proof.Machine.execLdAL s
  | .ldAAtHl => Sys2Proof.Machine.execLdAAtHl s
  | .ldAA => Sys2Proof.Machine.execLdAA s
  | .ldhAtNA n => Sys2Proof.Machine.execLdhAtNA n s
  | .ldhAtCA => Sys2Proof.Machine.execLdhAtCA s
  | .ldAtNnA nn => Sys2Proof.Machine.execLdAtNnA nn s
  | .ldhAAtN n => Sys2Proof.Machine.execLdhAAtN n s
  | .ldhAAtC => Sys2Proof.Machine.execLdhAAtC s
  | .ldAAtNn nn => Sys2Proof.Machine.execLdAAtNn nn s
  -- 16-bit loads and the stack
  | .ldBcNn nn => Sys2Proof.Machine.execLdBcNn nn s
  | .ldAtNnSp nn => Sys2Proof.Machine.execLdAtNnSp nn s
  | .ldDeNn nn => Sys2Proof.Machine.execLdDeNn nn s
  | .ldHlNn nn => Sys2Proof.Machine.execLdHlNn nn s
  | .ldSpNn nn => Sys2Proof.Machine.execLdSpNn nn s
  | .popBc => Sys2Proof.Machine.execPopBc s
  | .pushBc => Sys2Proof.Machine.execPushBc s
  | .popDe => Sys2Proof.Machine.execPopDe s
  | .pushDe => Sys2Proof.Machine.execPushDe s
  | .popHl => Sys2Proof.Machine.execPopHl s
  | .pushHl => Sys2Proof.Machine.execPushHl s
  | .popAf => Sys2Proof.Machine.execPopAf s
  | .pushAf => Sys2Proof.Machine.execPushAf s
  | .ldHlSpE e => Sys2Proof.Machine.execLdHlSpE e s
  | .ldSpHl => Sys2Proof.Machine.execLdSpHl s
  -- 8-bit arithmetic and logic
  | .incB => Sys2Proof.Machine.execIncB s
  | .decB => Sys2Proof.Machine.execDecB s
  | .incC => Sys2Proof.Machine.execIncC s
  | .decC => Sys2Proof.Machine.execDecC s
  | .incD => Sys2Proof.Machine.execIncD s
  | .decD => Sys2Proof.Machine.execDecD s
  | .incE => Sys2Proof.Machine.execIncE s
  | .decE => Sys2Proof.Machine.execDecE s
  | .incH => Sys2Proof.Machine.execIncH s
  | .decH => Sys2Proof.Machine.execDecH s
  | .daa => Sys2Proof.Machine.execDaa s
  | .incL => Sys2Proof.Machine.execIncL s
  | .decL => Sys2Proof.Machine.execDecL s
  | .cpl => Sys2Proof.Machine.execCpl s
  | .incAtHl => Sys2Proof.Machine.execIncAtHl s
  | .decAtHl => Sys2Proof.Machine.execDecAtHl s
  | .scf => Sys2Proof.Machine.execScf s
  | .incA => Sys2Proof.Machine.execIncA s
  | .decA => Sys2Proof.Machine.execDecA s
  | .ccf => Sys2Proof.Machine.execCcf s
  | .addAB => Sys2Proof.Machine.execAddAB s
  | .addAC => Sys2Proof.Machine.execAddAC s
  | .addAD => Sys2Proof.Machine.execAddAD s
  | .addAE => Sys2Proof.Machine.execAddAE s
  | .addAH => Sys2Proof.Machine.execAddAH s
  | .addAL => Sys2Proof.Machine.execAddAL s
  | .addAAtHl => Sys2Proof.Machine.execAddAAtHl s
  | .addAA => Sys2Proof.Machine.execAddAA s
  | .adcAB => Sys2Proof.Machine.execAdcAB s
  | .adcAC => Sys2Proof.Machine.execAdcAC s
  | .adcAD => Sys2Proof.Machine.execAdcAD s
  | .adcAE => Sys2Proof.Machine.execAdcAE s
  | .adcAH => Sys2Proof.Machine.execAdcAH s
  | .adcAL => Sys2Proof.Machine.execAdcAL s
  | .adcAAtHl => Sys2Proof.Machine.execAdcAAtHl s
  | .adcAA => Sys2Proof.Machine.execAdcAA s
  | .subB => Sys2Proof.Machine.execSubB s
  | .subC => Sys2Proof.Machine.execSubC s
  | .subD => Sys2Proof.Machine.execSubD s
  | .subE => Sys2Proof.Machine.execSubE s
  | .subH => Sys2Proof.Machine.execSubH s
  | .subL => Sys2Proof.Machine.execSubL s
  | .subAtHl => Sys2Proof.Machine.execSubAtHl s
  | .subA => Sys2Proof.Machine.execSubA s
  | .sbcAB => Sys2Proof.Machine.execSbcAB s
  | .sbcAC => Sys2Proof.Machine.execSbcAC s
  | .sbcAD => Sys2Proof.Machine.execSbcAD s
  | .sbcAE => Sys2Proof.Machine.execSbcAE s
  | .sbcAH => Sys2Proof.Machine.execSbcAH s
  | .sbcAL => Sys2Proof.Machine.execSbcAL s
  | .sbcAAtHl => Sys2Proof.Machine.execSbcAAtHl s
  | .sbcAA => Sys2Proof.Machine.execSbcAA s
  | .andB => Sys2Proof.Machine.execAndB s
  | .andC => Sys2Proof.Machine.execAndC s
  | .andD => Sys2Proof.Machine.execAndD s
  | .andE => Sys2Proof.Machine.execAndE s
  | .andH => Sys2Proof.Machine.execAndH s
  | .andL => Sys2Proof.Machine.execAndL s
  | .andAtHl => Sys2Proof.Machine.execAndAtHl s
  | .andA => Sys2Proof.Machine.execAndA s
  | .xorB => Sys2Proof.Machine.execXorB s
  | .xorC => Sys2Proof.Machine.execXorC s
  | .xorD => Sys2Proof.Machine.execXorD s
  | .xorE => Sys2Proof.Machine.execXorE s
  | .xorH => Sys2Proof.Machine.execXorH s
  | .xorL => Sys2Proof.Machine.execXorL s
  | .xorAtHl => Sys2Proof.Machine.execXorAtHl s
  | .xorA => Sys2Proof.Machine.execXorA s
  | .orB => Sys2Proof.Machine.execOrB s
  | .orC => Sys2Proof.Machine.execOrC s
  | .orD => Sys2Proof.Machine.execOrD s
  | .orE => Sys2Proof.Machine.execOrE s
  | .orH => Sys2Proof.Machine.execOrH s
  | .orL => Sys2Proof.Machine.execOrL s
  | .orAtHl => Sys2Proof.Machine.execOrAtHl s
  | .orA => Sys2Proof.Machine.execOrA s
  | .cpB => Sys2Proof.Machine.execCpB s
  | .cpC => Sys2Proof.Machine.execCpC s
  | .cpD => Sys2Proof.Machine.execCpD s
  | .cpE => Sys2Proof.Machine.execCpE s
  | .cpH => Sys2Proof.Machine.execCpH s
  | .cpL => Sys2Proof.Machine.execCpL s
  | .cpAtHl => Sys2Proof.Machine.execCpAtHl s
  | .cpA => Sys2Proof.Machine.execCpA s
  | .addAN n => Sys2Proof.Machine.execAddAN n s
  | .adcAN n => Sys2Proof.Machine.execAdcAN n s
  | .subN n => Sys2Proof.Machine.execSubN n s
  | .sbcAN n => Sys2Proof.Machine.execSbcAN n s
  | .andN n => Sys2Proof.Machine.execAndN n s
  | .xorN n => Sys2Proof.Machine.execXorN n s
  | .orN n => Sys2Proof.Machine.execOrN n s
  | .cpN n => Sys2Proof.Machine.execCpN n s
  -- 16-bit arithmetic
  | .incBc => Sys2Proof.Machine.execIncBc s
  | .addHlBc => Sys2Proof.Machine.execAddHlBc s
  | .decBc => Sys2Proof.Machine.execDecBc s
  | .incDe => Sys2Proof.Machine.execIncDe s
  | .addHlDe => Sys2Proof.Machine.execAddHlDe s
  | .decDe => Sys2Proof.Machine.execDecDe s
  | .incHl => Sys2Proof.Machine.execIncHl s
  | .addHlHl => Sys2Proof.Machine.execAddHlHl s
  | .decHl => Sys2Proof.Machine.execDecHl s
  | .incSp => Sys2Proof.Machine.execIncSp s
  | .addHlSp => Sys2Proof.Machine.execAddHlSp s
  | .decSp => Sys2Proof.Machine.execDecSp s
  | .addSpE e => Sys2Proof.Machine.execAddSpE e s
  -- rotates and shifts
  | .rlca => Sys2Proof.Machine.execRlca s
  | .rrca => Sys2Proof.Machine.execRrca s
  | .rla => Sys2Proof.Machine.execRla s
  | .rra => Sys2Proof.Machine.execRra s
  | .rlcB => Sys2Proof.Machine.execRlcB s
  | .rlcC => Sys2Proof.Machine.execRlcC s
  | .rlcD => Sys2Proof.Machine.execRlcD s
  | .rlcE => Sys2Proof.Machine.execRlcE s
  | .rlcH => Sys2Proof.Machine.execRlcH s
  | .rlcL => Sys2Proof.Machine.execRlcL s
  | .rlcAtHl => Sys2Proof.Machine.execRlcAtHl s
  | .rlcA => Sys2Proof.Machine.execRlcA s
  | .rrcB => Sys2Proof.Machine.execRrcB s
  | .rrcC => Sys2Proof.Machine.execRrcC s
  | .rrcD => Sys2Proof.Machine.execRrcD s
  | .rrcE => Sys2Proof.Machine.execRrcE s
  | .rrcH => Sys2Proof.Machine.execRrcH s
  | .rrcL => Sys2Proof.Machine.execRrcL s
  | .rrcAtHl => Sys2Proof.Machine.execRrcAtHl s
  | .rrcA => Sys2Proof.Machine.execRrcA s
  | .rlB => Sys2Proof.Machine.execRlB s
  | .rlC => Sys2Proof.Machine.execRlC s
  | .rlD => Sys2Proof.Machine.execRlD s
  | .rlE => Sys2Proof.Machine.execRlE s
  | .rlH => Sys2Proof.Machine.execRlH s
  | .rlL => Sys2Proof.Machine.execRlL s
  | .rlAtHl => Sys2Proof.Machine.execRlAtHl s
  | .rlA => Sys2Proof.Machine.execRlA s
  | .rrB => Sys2Proof.Machine.execRrB s
  | .rrC => Sys2Proof.Machine.execRrC s
  | .rrD => Sys2Proof.Machine.execRrD s
  | .rrE => Sys2Proof.Machine.execRrE s
  | .rrH => Sys2Proof.Machine.execRrH s
  | .rrL => Sys2Proof.Machine.execRrL s
  | .rrAtHl => Sys2Proof.Machine.execRrAtHl s
  | .rrA => Sys2Proof.Machine.execRrA s
  | .slaB => Sys2Proof.Machine.execSlaB s
  | .slaC => Sys2Proof.Machine.execSlaC s
  | .slaD => Sys2Proof.Machine.execSlaD s
  | .slaE => Sys2Proof.Machine.execSlaE s
  | .slaH => Sys2Proof.Machine.execSlaH s
  | .slaL => Sys2Proof.Machine.execSlaL s
  | .slaAtHl => Sys2Proof.Machine.execSlaAtHl s
  | .slaA => Sys2Proof.Machine.execSlaA s
  | .sraB => Sys2Proof.Machine.execSraB s
  | .sraC => Sys2Proof.Machine.execSraC s
  | .sraD => Sys2Proof.Machine.execSraD s
  | .sraE => Sys2Proof.Machine.execSraE s
  | .sraH => Sys2Proof.Machine.execSraH s
  | .sraL => Sys2Proof.Machine.execSraL s
  | .sraAtHl => Sys2Proof.Machine.execSraAtHl s
  | .sraA => Sys2Proof.Machine.execSraA s
  | .swapB => Sys2Proof.Machine.execSwapB s
  | .swapC => Sys2Proof.Machine.execSwapC s
  | .swapD => Sys2Proof.Machine.execSwapD s
  | .swapE => Sys2Proof.Machine.execSwapE s
  | .swapH => Sys2Proof.Machine.execSwapH s
  | .swapL => Sys2Proof.Machine.execSwapL s
  | .swapAtHl => Sys2Proof.Machine.execSwapAtHl s
  | .swapA => Sys2Proof.Machine.execSwapA s
  | .srlB => Sys2Proof.Machine.execSrlB s
  | .srlC => Sys2Proof.Machine.execSrlC s
  | .srlD => Sys2Proof.Machine.execSrlD s
  | .srlE => Sys2Proof.Machine.execSrlE s
  | .srlH => Sys2Proof.Machine.execSrlH s
  | .srlL => Sys2Proof.Machine.execSrlL s
  | .srlAtHl => Sys2Proof.Machine.execSrlAtHl s
  | .srlA => Sys2Proof.Machine.execSrlA s
  -- bit test, reset and set
  | .bitB b => Sys2Proof.Machine.execBitB b s
  | .bitC b => Sys2Proof.Machine.execBitC b s
  | .bitD b => Sys2Proof.Machine.execBitD b s
  | .bitE b => Sys2Proof.Machine.execBitE b s
  | .bitH b => Sys2Proof.Machine.execBitH b s
  | .bitL b => Sys2Proof.Machine.execBitL b s
  | .bitAtHl b => Sys2Proof.Machine.execBitAtHl b s
  | .bitA b => Sys2Proof.Machine.execBitA b s
  | .resB b => Sys2Proof.Machine.execResB b s
  | .resC b => Sys2Proof.Machine.execResC b s
  | .resD b => Sys2Proof.Machine.execResD b s
  | .resE b => Sys2Proof.Machine.execResE b s
  | .resH b => Sys2Proof.Machine.execResH b s
  | .resL b => Sys2Proof.Machine.execResL b s
  | .resAtHl b => Sys2Proof.Machine.execResAtHl b s
  | .resA b => Sys2Proof.Machine.execResA b s
  | .setB b => Sys2Proof.Machine.execSetB b s
  | .setC b => Sys2Proof.Machine.execSetC b s
  | .setD b => Sys2Proof.Machine.execSetD b s
  | .setE b => Sys2Proof.Machine.execSetE b s
  | .setH b => Sys2Proof.Machine.execSetH b s
  | .setL b => Sys2Proof.Machine.execSetL b s
  | .setAtHl b => Sys2Proof.Machine.execSetAtHl b s
  | .setA b => Sys2Proof.Machine.execSetA b s
  -- the prefix
  | .prefixCb => Sys2Proof.Machine.execPrefixCb s
  -- jumps, calls, returns, restarts
  | .jrE e => Sys2Proof.Machine.execJrE e s
  | .jrNzE e => Sys2Proof.Machine.execJrNzE e s
  | .jrZE e => Sys2Proof.Machine.execJrZE e s
  | .jrNcE e => Sys2Proof.Machine.execJrNcE e s
  | .jrCE e => Sys2Proof.Machine.execJrCE e s
  | .retNz => Sys2Proof.Machine.execRetNz s
  | .jpNzNn nn => Sys2Proof.Machine.execJpNzNn nn s
  | .jpNn nn => Sys2Proof.Machine.execJpNn nn s
  | .callNzNn nn => Sys2Proof.Machine.execCallNzNn nn s
  | .rst00 => Sys2Proof.Machine.execRst00 s
  | .retZ => Sys2Proof.Machine.execRetZ s
  | .ret => Sys2Proof.Machine.execRet s
  | .jpZNn nn => Sys2Proof.Machine.execJpZNn nn s
  | .callZNn nn => Sys2Proof.Machine.execCallZNn nn s
  | .callNn nn => Sys2Proof.Machine.execCallNn nn s
  | .rst08 => Sys2Proof.Machine.execRst08 s
  | .retNc => Sys2Proof.Machine.execRetNc s
  | .jpNcNn nn => Sys2Proof.Machine.execJpNcNn nn s
  | .callNcNn nn => Sys2Proof.Machine.execCallNcNn nn s
  | .rst10 => Sys2Proof.Machine.execRst10 s
  | .retC => Sys2Proof.Machine.execRetC s
  | .reti => Sys2Proof.Machine.execReti s
  | .jpCNn nn => Sys2Proof.Machine.execJpCNn nn s
  | .callCNn nn => Sys2Proof.Machine.execCallCNn nn s
  | .rst18 => Sys2Proof.Machine.execRst18 s
  | .rst20 => Sys2Proof.Machine.execRst20 s
  | .jpHl => Sys2Proof.Machine.execJpHl s
  | .rst28 => Sys2Proof.Machine.execRst28 s
  | .rst30 => Sys2Proof.Machine.execRst30 s
  | .rst38 => Sys2Proof.Machine.execRst38 s
  -- NOP, HALT, STOP, DI, EI and the illegal bytes
  | .nop => Sys2Proof.Machine.execNop s
  | .stop pad => Sys2Proof.Machine.execStop pad s
  | .halt => Sys2Proof.Machine.execHalt s
  | .illegal op => Sys2Proof.Machine.execIllegal op s
  | .di => Sys2Proof.Machine.execDi s
  | .ei => Sys2Proof.Machine.execEi s

end Sys2Proof.Machine
end

