-- ==== Sys2Proof/Machine/Outer.lean ====
section
/-! DEFINITION. Fetching an instruction (30_encoding.md R102), the CPU phase (60_exceptions.md R326) and
the outer step (60_exceptions.md R330). -/

namespace Sys2Proof.Machine

/-! ## Fetching -/

/-- Notes where the opcode byte about to be fetched stands (log 9). -/
def State.markOpcode (s : State) : State := { s with opAddr := s.cpu.pc }

/-- `s.fetchFrom n`: the next bytes `Fetch8` yields, `n` of them, and the state after them. -/
def State.fetchFrom : Nat → State → List Byte × State
  | 0, s => ([], s)
  | n + 1, s =>
    let r := State.fetchFrom n s.afterFetch8
    (s.busRead s.cpu.pc :: r.1, r.2)

/-- The bytes of the instruction at PC and the state after the last `Fetch8` of them: the first byte alone
tells how many follow (30_encoding.md R100, R102; log 15). -/
def State.fetchBytes (s : State) : List Byte × State :=
  let op := s.busRead s.cpu.pc
  let r := State.fetchFrom (instrLength op - 1) s.markOpcode.afterFetch8
  (op :: r.1, r.2)

/-- `ExecuteInstruction()` (30_encoding.md R102). -/
def State.executeInstruction (s : State) : Result :=
  let r := s.fetchBytes
  exec (decodeBytes (r.1.getD 0 0) (r.1.getD 1 0) (r.1.getD 2 0)) r.2

/-! ## The CPU phase (60_exceptions.md R326) -/

/-- A halted CPU wakes when an enabled request is pending, whatever IME is (60_exceptions.md R328). -/
def State.wake (s : State) : State :=
  if s.cpu.halted ∧ s.pending ≠ 0 then s.setHalted false else s

/-- IME is set before the instruction after EI (46_misc.md R304). -/
def State.promoteEi (s : State) : State := if s.cpu.eiPending then s.setIme true false else s

/-- `CpuPhase()` after the wake test. -/
def State.awakePhase (s : State) : Result :=
  if s.cpu.ime ∧ s.pending ≠ 0 then .next ((s.takeInterrupt (lowestRequest s.pending)).report 20)
  else if s.cpu.halted then .next (s.report 4)
  else s.promoteEi.executeInstruction

/-- `CpuPhase()`. -/
def State.cpuPhase (s : State) : Result := s.wake.awakePhase

/-! ## The outer step (60_exceptions.md R330) -/

/-- Phases 2 to 4: the display and the timer advance by the reported cost, then every request is merged
into IF. -/
def State.advance (s : State) : State :=
  { s with
    lcd := (s.lcd.ticks s.cost).1
    timer := (s.timer.ticks s.cost).1
    irq := { s.irq with
      flags := s.irq.flags ||| (s.lcd.ticks s.cost).2 ||| (s.timer.ticks s.cost).2 ||| s.env.extIrq }
    env := s.env.tookStep }

/-- The step in which `PowerOff` answers true: `powered` is cleared and nothing runs (10_state.md R33,
log 10). -/
def State.switchOff (s : State) : State := { s with powered := false, env := s.env.tookStep }

/-- The end of phase 1: a stop ends the step, a next state goes on to the devices. -/
def finishStep : Result → Result
  | .next t => .next t.advance
  | .fault r => .fault r
  | .refused r => .refused r

/-- `OuterStep(k)`. -/
def State.outerStep (s : State) : Result :=
  if s.powered = false then .refused .poweredOff
  else if s.cfg.accepted = false then .refused .malformedCartridge
  else if s.env.powerOffNow then .next s.switchOff
  else finishStep s.cpuPhase

/-! ## Placing an instruction where the next step fetches it (log 16) -/

/-- The byte at `addr` is plain storage that a fetch reads back: not a port, not the cartridge RAM window,
and not the byte of the image that names the cartridge's type. -/
def State.holdsCode (s : State) (addr : Word) : Bool :=
  match regionOf addr with
  | .cartRom n => romOffset s.cfg s.cart n != 0x147
  | .vram _ | .wram _ | .oam _ | .hram _ => true
  | _ => false

/-- Puts a byte into the storage behind `addr`, the image included, as a loader outside the machine does. -/
def State.poke (s : State) (addr : Word) (v : Byte) : State :=
  match regionOf addr with
  | .cartRom n =>
    { s with cfg := { s.cfg with rom := s.cfg.rom.write (romOffset s.cfg s.cart n) v } }
  | .vram k => { s with vram := s.vram.write k v }
  | .wram k => { s with wram := s.wram.write k v }
  | .oam k => { s with oam := s.oam.write k v }
  | .hram k => { s with hram := s.hram.write k v }
  | _ => s

/-- Puts the bytes of a list at consecutive addresses from `addr` on. -/
def State.pokeBytes (s : State) (addr : Word) : List Byte → State
  | [] => s
  | v :: rest => (s.poke addr v).pokeBytes (addr + 1) rest

/-- Where an instruction is placed: at PC if three bytes fit there, else in working RAM. -/
def State.codeAddress (s : State) : Word :=
  if s.holdsCode s.cpu.pc ∧ s.holdsCode (s.cpu.pc + 1) ∧ s.holdsCode (s.cpu.pc + 2) then s.cpu.pc
  else 0xC000

/-- The environment with no power-off in the step about to run: where no input is listed, a quiet one is. -/
def Env.stayOn (e : Env) : Env :=
  match e.steps with
  | i :: rest => { e with steps := { i with powerOff := false } :: rest }
  | [] => { e with steps := [{ powerOff := false, serial := false, joypad := false }] }

/-- The machine about to execute the instruction at PC: on, awake, no latch, no dispatch first. -/
def State.ready (s : State) : State :=
  { s with
    powered := true
    env := s.env.stayOn
    cpu := { s.cpu with
      halted := false
      haltbugLatch := false
      ime := s.cpu.ime && s.pending == 0 } }

/-- The bytes of a table word placed where the next step fetches its instruction. -/
def State.placeWord (s : State) (nbits w : Nat) : State :=
  (s.ready.setPc s.codeAddress).pokeBytes s.codeAddress (tableBytes nbits w)

end Sys2Proof.Machine
end

