-- ==== Sys2Proof/Machine/Step.lean ====
section
/-! DEFINITION. One step of the machine: one outer step (60_exceptions.md R330). -/

namespace Sys2Proof.Machine

/-- One outer step. -/
def step (s : State) : Host.Outcome State Fault Refusal := s.outerStep

/-- The state whose next step runs the instruction of a table word (log 16). -/
def State.withFetchWord (s : State) (nbits w : Nat) : State := s.placeWord nbits w

end Sys2Proof.Machine
end

