-- ==== Sys2Proof/Safety.lean ====
section
/-! DEFINITION. What claims about runs speak of: the invariant every step keeps (10_state.md R43), and a
run that never faults. -/

namespace Sys2Proof.Machine

/-- The invariants of the CPU latches (10_state.md R43). -/
structure State.CpuInv (s : State) : Prop where
  eiPending : s.cpu.eiPending = true → s.cpu.ime = false
  latch : s.cpu.haltbugLatch = true → s.cfg.haltBug = true ∧ s.cpu.halted = false

/-- The invariants of the timer (10_state.md R43). -/
structure Timer.Inv (t : Timer) : Prop where
  divCnt : t.divCnt < 256
  timaCnt : t.timaCnt < 1024

/-- The invariants of the display timing (10_state.md R43). -/
structure Lcd.Inv (d : Lcd) : Prop where
  ly : d.ly.toNat ≤ 153
  dot : d.dot ≤ 455
  off : d.enabled = false → d.ly = 0 ∧ d.dot = 0 ∧ d.mode = .hblank
  vblank : d.mode = .vblank ↔ 144 ≤ d.ly.toNat
  searchOam : d.mode = .searchOam → d.dot < 80
  transfer : d.mode = .transfer → 80 ≤ d.dot ∧ d.dot < 252

/-- The invariants of the bank registers (10_state.md R36, R43). -/
structure State.CartInv (s : State) : Prop where
  bank1 : s.cfg.kind = .mbc1 → s.cart.bank1 ≠ 0
  romBank : s.cfg.kind = .mbc3 → s.cart.romBank ≠ 0 ∧ s.cart.romBank.toNat < 128

/-- Every memory the machine writes is in its canonical form and within its size (10_state.md R37). -/
structure State.MemInv (s : State) : Prop where
  cram : s.cram.wf = true ∧ s.cram.below s.cfg.ramSize = true
  vram : s.vram.wf = true ∧ s.vram.below 0x2000 = true
  wram : s.wram.wf = true ∧ s.wram.below 0x2000 = true
  oam : s.oam.wf = true ∧ s.oam.below 0xA0 = true
  hram : s.hram.wf = true ∧ s.hram.below 0x7F = true

/-- The invariant every step keeps. -/
structure State.Inv (s : State) : Prop where
  cpu : s.CpuInv
  timer : s.timer.Inv
  lcd : s.lcd.Inv
  cart : s.CartInv
  mem : s.MemInv

/-- A run from `s` that never faults, however long: what a claim about a program says first. A run that
ends because the power goes off is no fault (00_scope.md R12). -/
def State.Safe (s : State) : Prop := ∀ n r, Sys2Proof.core.run n s ≠ .fault r

end Sys2Proof.Machine
end

