-- ==== Sys2Proof/Certificates/Slice0/Forms.lean ====
section
/-! DEFINITION. The vocabulary of the statements in Obligations.lean: tables that give each form of an
instruction with its opcode byte and its operands (30_encoding.md R109 to R113, R119), what each
instruction may write (the frame), and a few readings of the rules. No definition of the model uses this
file. -/

namespace Sys2Proof.Forms

open Sys2Proof.Machine

/-- These bytes decode to this instruction with nothing left over. -/
def Decodes (bytes : List Byte) (i : Instr) : Prop := decode bytes = .ok (i, [])

/-! ## Tables of forms -/

/-- `LD r,r'`: opcode, instruction, destination, source (R131). -/
def loadRegister : List (Byte × Instr × Reg8 × Reg8) :=
  [(0x40, .ldBB, .b, .b), (0x41, .ldBC, .b, .c), (0x42, .ldBD, .b, .d),
   (0x43, .ldBE, .b, .e), (0x44, .ldBH, .b, .h), (0x45, .ldBL, .b, .l),
   (0x47, .ldBA, .b, .a), (0x48, .ldCB, .c, .b), (0x49, .ldCC, .c, .c),
   (0x4A, .ldCD, .c, .d), (0x4B, .ldCE, .c, .e), (0x4C, .ldCH, .c, .h),
   (0x4D, .ldCL, .c, .l), (0x4F, .ldCA, .c, .a), (0x50, .ldDB, .d, .b),
   (0x51, .ldDC, .d, .c), (0x52, .ldDD, .d, .d), (0x53, .ldDE, .d, .e),
   (0x54, .ldDH, .d, .h), (0x55, .ldDL, .d, .l), (0x57, .ldDA, .d, .a),
   (0x58, .ldEB, .e, .b), (0x59, .ldEC, .e, .c), (0x5A, .ldED, .e, .d),
   (0x5B, .ldEE, .e, .e), (0x5C, .ldEH, .e, .h), (0x5D, .ldEL, .e, .l),
   (0x5F, .ldEA, .e, .a), (0x60, .ldHB, .h, .b), (0x61, .ldHC, .h, .c),
   (0x62, .ldHD, .h, .d), (0x63, .ldHE, .h, .e), (0x64, .ldHH, .h, .h),
   (0x65, .ldHL, .h, .l), (0x67, .ldHA, .h, .a), (0x68, .ldLB, .l, .b),
   (0x69, .ldLC, .l, .c), (0x6A, .ldLD, .l, .d), (0x6B, .ldLE, .l, .e),
   (0x6C, .ldLH, .l, .h), (0x6D, .ldLL, .l, .l), (0x6F, .ldLA, .l, .a),
   (0x78, .ldAB, .a, .b), (0x79, .ldAC, .a, .c), (0x7A, .ldAD, .a, .d),
   (0x7B, .ldAE, .a, .e), (0x7C, .ldAH, .a, .h), (0x7D, .ldAL, .a, .l),
   (0x7F, .ldAA, .a, .a)]

/-- `LD r,n`: opcode, instruction, destination (R132). -/
def loadImmediate : List (Byte × (Byte → Instr) × Reg8) :=
  [(0x06, .ldBN, .b), (0x0E, .ldCN, .c), (0x16, .ldDN, .d), (0x1E, .ldEN, .e),
   (0x26, .ldHN, .h), (0x2E, .ldLN, .l), (0x3E, .ldAN, .a)]

/-- `LD r,(HL)`: opcode, instruction, destination (R133). -/
def loadFromHl : List (Byte × Instr × Reg8) :=
  [(0x46, .ldBAtHl, .b), (0x4E, .ldCAtHl, .c), (0x56, .ldDAtHl, .d), (0x5E, .ldEAtHl, .e),
   (0x66, .ldHAtHl, .h), (0x6E, .ldLAtHl, .l), (0x7E, .ldAAtHl, .a)]

/-- `LD (HL),r`: opcode, instruction, source (R134). -/
def storeAtHl : List (Byte × Instr × Reg8) :=
  [(0x70, .ldAtHlB, .b), (0x71, .ldAtHlC, .c), (0x72, .ldAtHlD, .d), (0x73, .ldAtHlE, .e),
   (0x74, .ldAtHlH, .h), (0x75, .ldAtHlL, .l), (0x77, .ldAtHlA, .a)]

/-- `ADD` on a register and on the byte at HL: opcode, instruction, operand (R185, R186). -/
def addForms : List (Byte × Instr × Operand8) :=
  [(0x80, .addAB, .reg .b), (0x81, .addAC, .reg .c), (0x82, .addAD, .reg .d),
   (0x83, .addAE, .reg .e), (0x84, .addAH, .reg .h), (0x85, .addAL, .reg .l),
   (0x86, .addAAtHl, .atHl), (0x87, .addAA, .reg .a)]

/-- `ADC` on a register and on the byte at HL: opcode, instruction, operand (R188, R189). -/
def adcForms : List (Byte × Instr × Operand8) :=
  [(0x88, .adcAB, .reg .b), (0x89, .adcAC, .reg .c), (0x8A, .adcAD, .reg .d),
   (0x8B, .adcAE, .reg .e), (0x8C, .adcAH, .reg .h), (0x8D, .adcAL, .reg .l),
   (0x8E, .adcAAtHl, .atHl), (0x8F, .adcAA, .reg .a)]

/-- `SUB` on a register and on the byte at HL: opcode, instruction, operand (R191, R192). -/
def subForms : List (Byte × Instr × Operand8) :=
  [(0x90, .subB, .reg .b), (0x91, .subC, .reg .c), (0x92, .subD, .reg .d),
   (0x93, .subE, .reg .e), (0x94, .subH, .reg .h), (0x95, .subL, .reg .l),
   (0x96, .subAtHl, .atHl), (0x97, .subA, .reg .a)]

/-- `SBC` on a register and on the byte at HL: opcode, instruction, operand (R194, R195). -/
def sbcForms : List (Byte × Instr × Operand8) :=
  [(0x98, .sbcAB, .reg .b), (0x99, .sbcAC, .reg .c), (0x9A, .sbcAD, .reg .d),
   (0x9B, .sbcAE, .reg .e), (0x9C, .sbcAH, .reg .h), (0x9D, .sbcAL, .reg .l),
   (0x9E, .sbcAAtHl, .atHl), (0x9F, .sbcAA, .reg .a)]

/-- `AND` on a register and on the byte at HL: opcode, instruction, operand (R197, R198). -/
def andForms : List (Byte × Instr × Operand8) :=
  [(0xA0, .andB, .reg .b), (0xA1, .andC, .reg .c), (0xA2, .andD, .reg .d),
   (0xA3, .andE, .reg .e), (0xA4, .andH, .reg .h), (0xA5, .andL, .reg .l),
   (0xA6, .andAtHl, .atHl), (0xA7, .andA, .reg .a)]

/-- `XOR` on a register and on the byte at HL: opcode, instruction, operand (R200, R201). -/
def xorForms : List (Byte × Instr × Operand8) :=
  [(0xA8, .xorB, .reg .b), (0xA9, .xorC, .reg .c), (0xAA, .xorD, .reg .d),
   (0xAB, .xorE, .reg .e), (0xAC, .xorH, .reg .h), (0xAD, .xorL, .reg .l),
   (0xAE, .xorAtHl, .atHl), (0xAF, .xorA, .reg .a)]

/-- `OR` on a register and on the byte at HL: opcode, instruction, operand (R203, R204). -/
def orForms : List (Byte × Instr × Operand8) :=
  [(0xB0, .orB, .reg .b), (0xB1, .orC, .reg .c), (0xB2, .orD, .reg .d),
   (0xB3, .orE, .reg .e), (0xB4, .orH, .reg .h), (0xB5, .orL, .reg .l),
   (0xB6, .orAtHl, .atHl), (0xB7, .orA, .reg .a)]

/-- `CP` on a register and on the byte at HL: opcode, instruction, operand (R206, R207). -/
def cpForms : List (Byte × Instr × Operand8) :=
  [(0xB8, .cpB, .reg .b), (0xB9, .cpC, .reg .c), (0xBA, .cpD, .reg .d),
   (0xBB, .cpE, .reg .e), (0xBC, .cpH, .reg .h), (0xBD, .cpL, .reg .l),
   (0xBE, .cpAtHl, .atHl), (0xBF, .cpA, .reg .a)]

/-- `INC` of a byte: opcode, instruction, operand (R209, R210). -/
def incForms : List (Byte × Instr × Operand8) :=
  [(0x04, .incB, .reg .b), (0x0C, .incC, .reg .c), (0x14, .incD, .reg .d),
   (0x1C, .incE, .reg .e), (0x24, .incH, .reg .h), (0x2C, .incL, .reg .l),
   (0x34, .incAtHl, .atHl), (0x3C, .incA, .reg .a)]

/-- `DEC` of a byte: opcode, instruction, operand (R211, R212). -/
def decForms : List (Byte × Instr × Operand8) :=
  [(0x05, .decB, .reg .b), (0x0D, .decC, .reg .c), (0x15, .decD, .reg .d),
   (0x1D, .decE, .reg .e), (0x25, .decH, .reg .h), (0x2D, .decL, .reg .l),
   (0x35, .decAtHl, .atHl), (0x3D, .decA, .reg .a)]

/-- `LD rr,nn`: opcode, instruction, destination (R161). -/
def loadPair : List (Byte × (Word → Instr) × Reg16) :=
  [(0x01, .ldBcNn, .bc), (0x11, .ldDeNn, .de), (0x21, .ldHlNn, .hl), (0x31, .ldSpNn, .sp)]

/-- `ADD HL,rr`: opcode, instruction, pair (R231). -/
def addHlForms : List (Byte × Instr × Reg16) :=
  [(0x09, .addHlBc, .bc), (0x19, .addHlDe, .de), (0x29, .addHlHl, .hl), (0x39, .addHlSp, .sp)]

/-- `INC rr`: opcode, instruction, pair (R232). -/
def incPairForms : List (Byte × Instr × Reg16) :=
  [(0x03, .incBc, .bc), (0x13, .incDe, .de), (0x23, .incHl, .hl), (0x33, .incSp, .sp)]

/-- `DEC rr`: opcode, instruction, pair (R233). -/
def decPairForms : List (Byte × Instr × Reg16) :=
  [(0x0B, .decBc, .bc), (0x1B, .decDe, .de), (0x2B, .decHl, .hl), (0x3B, .decSp, .sp)]

/-- `PUSH qq`: opcode, instruction, pair (R165). -/
def pushForms : List (Byte × Instr × StackPair) :=
  [(0xC5, .pushBc, .bc), (0xD5, .pushDe, .de), (0xE5, .pushHl, .hl), (0xF5, .pushAf, .af)]

/-- `POP qq`: opcode, instruction, pair (R166). -/
def popForms : List (Byte × Instr × StackPair) :=
  [(0xC1, .popBc, .bc), (0xD1, .popDe, .de), (0xE1, .popHl, .hl), (0xF1, .popAf, .af)]

/-- The rotates and shifts behind 0xCB: second byte, instruction, operation, operand (R246 to R261). -/
def rotateForms : List (Byte × Instr × RotOp × Operand8) :=
  [(0x00, .rlcB, .rlc, .reg .b), (0x01, .rlcC, .rlc, .reg .c), (0x02, .rlcD, .rlc, .reg .d),
   (0x03, .rlcE, .rlc, .reg .e), (0x04, .rlcH, .rlc, .reg .h), (0x05, .rlcL, .rlc, .reg .l),
   (0x06, .rlcAtHl, .rlc, .atHl), (0x07, .rlcA, .rlc, .reg .a), (0x08, .rrcB, .rrc, .reg .b),
   (0x09, .rrcC, .rrc, .reg .c), (0x0A, .rrcD, .rrc, .reg .d), (0x0B, .rrcE, .rrc, .reg .e),
   (0x0C, .rrcH, .rrc, .reg .h), (0x0D, .rrcL, .rrc, .reg .l), (0x0E, .rrcAtHl, .rrc, .atHl),
   (0x0F, .rrcA, .rrc, .reg .a), (0x10, .rlB, .rl, .reg .b), (0x11, .rlC, .rl, .reg .c),
   (0x12, .rlD, .rl, .reg .d), (0x13, .rlE, .rl, .reg .e), (0x14, .rlH, .rl, .reg .h),
   (0x15, .rlL, .rl, .reg .l), (0x16, .rlAtHl, .rl, .atHl), (0x17, .rlA, .rl, .reg .a),
   (0x18, .rrB, .rr, .reg .b), (0x19, .rrC, .rr, .reg .c), (0x1A, .rrD, .rr, .reg .d),
   (0x1B, .rrE, .rr, .reg .e), (0x1C, .rrH, .rr, .reg .h), (0x1D, .rrL, .rr, .reg .l),
   (0x1E, .rrAtHl, .rr, .atHl), (0x1F, .rrA, .rr, .reg .a), (0x20, .slaB, .sla, .reg .b),
   (0x21, .slaC, .sla, .reg .c), (0x22, .slaD, .sla, .reg .d), (0x23, .slaE, .sla, .reg .e),
   (0x24, .slaH, .sla, .reg .h), (0x25, .slaL, .sla, .reg .l), (0x26, .slaAtHl, .sla, .atHl),
   (0x27, .slaA, .sla, .reg .a), (0x28, .sraB, .sra, .reg .b), (0x29, .sraC, .sra, .reg .c),
   (0x2A, .sraD, .sra, .reg .d), (0x2B, .sraE, .sra, .reg .e), (0x2C, .sraH, .sra, .reg .h),
   (0x2D, .sraL, .sra, .reg .l), (0x2E, .sraAtHl, .sra, .atHl), (0x2F, .sraA, .sra, .reg .a),
   (0x30, .swapB, .swap, .reg .b), (0x31, .swapC, .swap, .reg .c), (0x32, .swapD, .swap, .reg .d),
   (0x33, .swapE, .swap, .reg .e), (0x34, .swapH, .swap, .reg .h), (0x35, .swapL, .swap, .reg .l),
   (0x36, .swapAtHl, .swap, .atHl), (0x37, .swapA, .swap, .reg .a), (0x38, .srlB, .srl, .reg .b),
   (0x39, .srlC, .srl, .reg .c), (0x3A, .srlD, .srl, .reg .d), (0x3B, .srlE, .srl, .reg .e),
   (0x3C, .srlH, .srl, .reg .h), (0x3D, .srlL, .srl, .reg .l), (0x3E, .srlAtHl, .srl, .atHl),
   (0x3F, .srlA, .srl, .reg .a)]

/-- `BIT b,x`: the second byte for bit 0, instruction, operand (R262, R263). -/
def bitForms : List (Byte × (BitIndex → Instr) × Operand8) :=
  [(0x40, .bitB, .reg .b), (0x41, .bitC, .reg .c), (0x42, .bitD, .reg .d),
   (0x43, .bitE, .reg .e), (0x44, .bitH, .reg .h), (0x45, .bitL, .reg .l),
   (0x46, .bitAtHl, .atHl), (0x47, .bitA, .reg .a)]

/-- `RES b,x`: the second byte for bit 0, instruction, operand (R264, R265). -/
def resForms : List (Byte × (BitIndex → Instr) × Operand8) :=
  [(0x80, .resB, .reg .b), (0x81, .resC, .reg .c), (0x82, .resD, .reg .d),
   (0x83, .resE, .reg .e), (0x84, .resH, .reg .h), (0x85, .resL, .reg .l),
   (0x86, .resAtHl, .atHl), (0x87, .resA, .reg .a)]

/-- `SET b,x`: the second byte for bit 0, instruction, operand (R266, R267). -/
def setForms : List (Byte × (BitIndex → Instr) × Operand8) :=
  [(0xC0, .setB, .reg .b), (0xC1, .setC, .reg .c), (0xC2, .setD, .reg .d),
   (0xC3, .setE, .reg .e), (0xC4, .setH, .reg .h), (0xC5, .setL, .reg .l),
   (0xC6, .setAtHl, .atHl), (0xC7, .setA, .reg .a)]

/-- `JP cc,nn`: opcode, instruction, condition (R282). -/
def jumpForms : List (Byte × (Word → Instr) × Cond) :=
  [(0xC2, .jpNzNn, .nz), (0xCA, .jpZNn, .z), (0xD2, .jpNcNn, .nc), (0xDA, .jpCNn, .c)]

/-- `JR cc,e`: opcode, instruction, condition (R285). -/
def jumpRelativeForms : List (Byte × (Byte → Instr) × Cond) :=
  [(0x20, .jrNzE, .nz), (0x28, .jrZE, .z), (0x30, .jrNcE, .nc), (0x38, .jrCE, .c)]

/-- `CALL cc,nn`: opcode, instruction, condition (R287). -/
def callForms : List (Byte × (Word → Instr) × Cond) :=
  [(0xC4, .callNzNn, .nz), (0xCC, .callZNn, .z), (0xD4, .callNcNn, .nc), (0xDC, .callCNn, .c)]

/-- `RET cc`: opcode, instruction, condition (R289). -/
def returnForms : List (Byte × Instr × Cond) :=
  [(0xC0, .retNz, .nz), (0xC8, .retZ, .z), (0xD0, .retNc, .nc), (0xD8, .retC, .c)]

/-- `RST t`: opcode, instruction, target (R291). -/
def restartForms : List (Byte × Instr × Word) :=
  [(0xC7, .rst00, 0x0000), (0xCF, .rst08, 0x0008), (0xD7, .rst10, 0x0010), (0xDF, .rst18, 0x0018),
   (0xE7, .rst20, 0x0020), (0xEF, .rst28, 0x0028), (0xF7, .rst30, 0x0030), (0xFF, .rst38, 0x0038)]

/-! ## What an instruction may write -/

/-- The 8-bit registers an instruction may write (each rule's Operation); for the prefix, which runs any
CB instruction, all of them. -/
def writtenRegisters : Instr → List Reg8
  | .ldBcNn _ | .incBc | .decBc | .popBc => [.b, .c]
  | .incB | .decB | .ldBN _ | .ldBB | .ldBC | .ldBD | .ldBE | .ldBH | .ldBL | .ldBAtHl | .ldBA
  | .rlcB | .rrcB | .rlB | .rrB | .slaB | .sraB | .swapB | .srlB | .resB _ | .setB _ => [.b]
  | .rlca | .ldAAtBc | .rrca | .rla | .ldAAtDe | .rra | .daa | .cpl | .incA | .decA | .ldAN _ | .ldAB
  | .ldAC | .ldAD | .ldAE | .ldAH | .ldAL | .ldAAtHl | .ldAA | .addAB | .addAC | .addAD | .addAE
  | .addAH | .addAL | .addAAtHl | .addAA | .adcAB | .adcAC | .adcAD | .adcAE | .adcAH | .adcAL
  | .adcAAtHl | .adcAA | .subB | .subC | .subD | .subE | .subH | .subL | .subAtHl | .subA | .sbcAB
  | .sbcAC | .sbcAD | .sbcAE | .sbcAH | .sbcAL | .sbcAAtHl | .sbcAA | .andB | .andC | .andD | .andE
  | .andH | .andL | .andAtHl | .andA | .xorB | .xorC | .xorD | .xorE | .xorH | .xorL | .xorAtHl
  | .xorA | .orB | .orC | .orD | .orE | .orH | .orL | .orAtHl | .orA | .addAN _ | .adcAN _ | .subN _
  | .sbcAN _ | .andN _ | .xorN _ | .ldhAAtN _ | .popAf | .ldhAAtC | .orN _ | .ldAAtNn _ | .rlcA
  | .rrcA | .rlA | .rrA | .slaA | .sraA | .swapA | .srlA | .resA _ | .setA _ => [.a]
  | .addHlBc | .addHlDe | .ldHlNn _ | .ldAtHlIncA | .incHl | .addHlHl | .decHl | .ldAtHlDecA
  | .addHlSp | .popHl | .ldHlSpE _ => [.h, .l]
  | .incC | .decC | .ldCN _ | .ldCB | .ldCC | .ldCD | .ldCE | .ldCH | .ldCL | .ldCAtHl | .ldCA
  | .rlcC | .rrcC | .rlC | .rrC | .slaC | .sraC | .swapC | .srlC | .resC _ | .setC _ => [.c]
  | .ldDeNn _ | .incDe | .decDe | .popDe => [.d, .e]
  | .incD | .decD | .ldDN _ | .ldDB | .ldDC | .ldDD | .ldDE | .ldDH | .ldDL | .ldDAtHl | .ldDA
  | .rlcD | .rrcD | .rlD | .rrD | .slaD | .sraD | .swapD | .srlD | .resD _ | .setD _ => [.d]
  | .incE | .decE | .ldEN _ | .ldEB | .ldEC | .ldED | .ldEE | .ldEH | .ldEL | .ldEAtHl | .ldEA
  | .rlcE | .rrcE | .rlE | .rrE | .slaE | .sraE | .swapE | .srlE | .resE _ | .setE _ => [.e]
  | .incH | .decH | .ldHN _ | .ldHB | .ldHC | .ldHD | .ldHE | .ldHH | .ldHL | .ldHAtHl | .ldHA
  | .rlcH | .rrcH | .rlH | .rrH | .slaH | .sraH | .swapH | .srlH | .resH _ | .setH _ => [.h]
  | .ldAAtHlInc | .ldAAtHlDec => [.a, .h, .l]
  | .incL | .decL | .ldLN _ | .ldLB | .ldLC | .ldLD | .ldLE | .ldLH | .ldLL | .ldLAtHl | .ldLA
  | .rlcL | .rrcL | .rlL | .rrL | .slaL | .sraL | .swapL | .srlL | .resL _ | .setL _ => [.l]
  | .prefixCb => [.b, .c, .d, .e, .h, .l, .a]
  | _ => []

/-- The instructions that write SP. -/
def writesSp : Instr → Bool
  | .ldSpNn _ | .incSp | .decSp | .retNz | .popBc | .callNzNn _ | .pushBc | .rst00 | .retZ | .ret
  | .callZNn _ | .callNn _ | .rst08 | .retNc | .popDe | .callNcNn _ | .pushDe | .rst10 | .retC
  | .reti | .callCNn _ | .rst18 | .popHl | .pushHl | .rst20 | .addSpE _ | .rst28 | .popAf | .pushAf
  | .rst30 | .ldSpHl | .rst38 => true
  | _ => false

/-- The instructions that write PC, beyond the fetch of their own bytes; the prefix fetches one more. -/
def writesPc : Instr → Bool
  | .jrE _ | .jrNzE _ | .jrZE _ | .jrNcE _ | .jrCE _ | .retNz | .jpNzNn _ | .jpNn _ | .callNzNn _
  | .rst00 | .retZ | .ret | .jpZNn _ | .prefixCb | .callZNn _ | .callNn _ | .rst08 | .retNc
  | .jpNcNn _ | .callNcNn _ | .rst10 | .retC | .reti | .jpCNn _ | .callCNn _ | .rst18 | .rst20
  | .jpHl | .rst28 | .rst30 | .rst38 => true
  | _ => false

/-- The instructions that write IME or `ei_pending` (R290, R303, R304). -/
def writesIme : Instr → Bool
  | .reti | .di | .ei => true
  | _ => false

/-- The instructions that write `halted` or `haltbug_latch` (R301, R302); the prefix's fetch clears the
latch. -/
def writesHalt : Instr → Bool
  | .stop _ | .halt | .prefixCb => true
  | _ => false

/-- One entry of the flag table (42_alu8.md R183): "-" unchanged, "0" and "1" forced, "*" computed. -/
inductive FlagRule where
  | keep | zero | one | computed
  deriving DecidableEq, Repr

/-- A row of the flag table, in the order Z N H C. -/
structure FlagRow where
  z : FlagRule
  n : FlagRule
  h : FlagRule
  c : FlagRule
  deriving DecidableEq, Repr

/-- The new value of a flag agrees with its entry. -/
def FlagRule.agrees (r : FlagRule) (old new : Bool) : Prop :=
  match r with
  | .keep => new = old
  | .zero => new = false
  | .one => new = true
  | .computed => True

/-- The flag table (42_alu8.md R183), instruction by instruction; the prefix runs any CB instruction. -/
def flagRow : Instr → FlagRow
  | .incB | .incC | .incD | .incE | .incH | .incL | .incAtHl | .incA => ⟨.computed, .zero, .computed, .keep⟩
  | .decB | .decC | .decD | .decE | .decH | .decL | .decAtHl | .decA => ⟨.computed, .one, .computed, .keep⟩
  | .rlca | .rrca | .rla | .rra => ⟨.zero, .zero, .zero, .computed⟩
  | .addHlBc | .addHlDe | .addHlHl | .addHlSp => ⟨.keep, .zero, .computed, .computed⟩
  | .daa => ⟨.computed, .keep, .zero, .computed⟩
  | .cpl => ⟨.keep, .one, .one, .keep⟩
  | .scf => ⟨.keep, .zero, .zero, .one⟩
  | .ccf => ⟨.keep, .zero, .zero, .computed⟩
  | .addAB | .addAC | .addAD | .addAE | .addAH | .addAL | .addAAtHl | .addAA | .adcAB | .adcAC
  | .adcAD | .adcAE | .adcAH | .adcAL | .adcAAtHl | .adcAA | .addAN _ | .adcAN _ => ⟨.computed, .zero, .computed, .computed⟩
  | .subB | .subC | .subD | .subE | .subH | .subL | .subAtHl | .subA | .sbcAB | .sbcAC | .sbcAD
  | .sbcAE | .sbcAH | .sbcAL | .sbcAAtHl | .sbcAA | .cpB | .cpC | .cpD | .cpE | .cpH | .cpL | .cpAtHl
  | .cpA | .subN _ | .sbcAN _ | .cpN _ => ⟨.computed, .one, .computed, .computed⟩
  | .andB | .andC | .andD | .andE | .andH | .andL | .andAtHl | .andA | .andN _ => ⟨.computed, .zero, .one, .zero⟩
  | .xorB | .xorC | .xorD | .xorE | .xorH | .xorL | .xorAtHl | .xorA | .orB | .orC | .orD | .orE
  | .orH | .orL | .orAtHl | .orA | .xorN _ | .orN _ | .swapB | .swapC | .swapD | .swapE | .swapH
  | .swapL | .swapAtHl | .swapA => ⟨.computed, .zero, .zero, .zero⟩
  | .prefixCb | .popAf => ⟨.computed, .computed, .computed, .computed⟩
  | .addSpE _ | .ldHlSpE _ => ⟨.zero, .zero, .computed, .computed⟩
  | .rlcB | .rlcC | .rlcD | .rlcE | .rlcH | .rlcL | .rlcAtHl | .rlcA | .rrcB | .rrcC | .rrcD | .rrcE
  | .rrcH | .rrcL | .rrcAtHl | .rrcA | .rlB | .rlC | .rlD | .rlE | .rlH | .rlL | .rlAtHl | .rlA
  | .rrB | .rrC | .rrD | .rrE | .rrH | .rrL | .rrAtHl | .rrA | .slaB | .slaC | .slaD | .slaE | .slaH
  | .slaL | .slaAtHl | .slaA | .sraB | .sraC | .sraD | .sraE | .sraH | .sraL | .sraAtHl | .sraA
  | .srlB | .srlC | .srlD | .srlE | .srlH | .srlL | .srlAtHl | .srlA => ⟨.computed, .zero, .zero, .computed⟩
  | .bitB _ | .bitC _ | .bitD _ | .bitE _ | .bitH _ | .bitL _ | .bitAtHl _ | .bitA _ => ⟨.computed, .zero, .one, .keep⟩
  | _ => ⟨.keep, .keep, .keep, .keep⟩

/-- The addresses an instruction stores a byte to, in order, computed on the state it starts from (the
Operation of each rule: HL, BC, DE, the immediate, the two bytes below SP); none for a form that stores
nothing. The prefix may run a form that stores at HL. -/
def storesTo (s : State) : Instr → List Word
  | .ldAtBcA => [s.bc]
  | .ldAtNnSp nn => [nn, nn + 1]
  | .ldAtDeA => [s.de]
  | .ldAtHlIncA | .ldAtHlDecA | .incAtHl | .decAtHl | .ldAtHlN _ | .ldAtHlB | .ldAtHlC | .ldAtHlD
  | .ldAtHlE | .ldAtHlH | .ldAtHlL | .ldAtHlA | .prefixCb | .rlcAtHl | .rrcAtHl | .rlAtHl | .rrAtHl
  | .slaAtHl | .sraAtHl | .swapAtHl | .srlAtHl | .resAtHl _ | .setAtHl _ => [s.hl]
  | .callNzNn _ => if Cond.holds .nz s.cpu.f then [s.cpu.sp - 1, s.cpu.sp - 2] else []
  | .pushBc | .rst00 | .callNn _ | .rst08 | .pushDe | .rst10 | .rst18 | .pushHl | .rst20 | .rst28
  | .pushAf | .rst30 | .rst38 => [s.cpu.sp - 1, s.cpu.sp - 2]
  | .callZNn _ => if Cond.holds .z s.cpu.f then [s.cpu.sp - 1, s.cpu.sp - 2] else []
  | .callNcNn _ => if Cond.holds .nc s.cpu.f then [s.cpu.sp - 1, s.cpu.sp - 2] else []
  | .callCNn _ => if Cond.holds .c s.cpu.f then [s.cpu.sp - 1, s.cpu.sp - 2] else []
  | .ldhAtNA n => [highPage n]
  | .ldhAtCA => [highPage s.cpu.c]
  | .ldAtNnA nn => [nn]
  | _ => []

/-- The addresses an instruction reads data from, in order (a form that reads its operand at HL, a load,
a pop; the prefix reads its second byte and may run a form that reads at HL). -/
def readsFrom (s : State) : Instr → List Word
  | .ldAAtBc => [s.bc]
  | .ldAAtDe => [s.de]
  | .ldAAtHlInc | .incAtHl | .decAtHl | .ldAAtHlDec | .ldBAtHl | .ldCAtHl | .ldDAtHl | .ldEAtHl
  | .ldHAtHl | .ldLAtHl | .ldAAtHl | .addAAtHl | .adcAAtHl | .subAtHl | .sbcAAtHl | .andAtHl
  | .xorAtHl | .orAtHl | .cpAtHl | .rlcAtHl | .rrcAtHl | .rlAtHl | .rrAtHl | .slaAtHl | .sraAtHl
  | .swapAtHl | .srlAtHl | .bitAtHl _ | .resAtHl _ | .setAtHl _ => [s.hl]
  | .retNz => if Cond.holds .nz s.cpu.f then [s.cpu.sp, s.cpu.sp + 1] else []
  | .popBc | .ret | .popDe | .reti | .popHl | .popAf => [s.cpu.sp, s.cpu.sp + 1]
  | .retZ => if Cond.holds .z s.cpu.f then [s.cpu.sp, s.cpu.sp + 1] else []
  | .prefixCb => [s.cpu.pc, s.hl]
  | .retNc => if Cond.holds .nc s.cpu.f then [s.cpu.sp, s.cpu.sp + 1] else []
  | .retC => if Cond.holds .c s.cpu.f then [s.cpu.sp, s.cpu.sp + 1] else []
  | .ldhAAtN n => [highPage n]
  | .ldhAAtC => [highPage s.cpu.c]
  | .ldAAtNn nn => [nn]
  | _ => []

/-! ## Addresses -/

/-- A read of `addr` is answered by a device outside the block (20_memory.md R74). -/
def isExternal (addr : Word) : Bool :=
  match regionOf addr with
  | .external => true
  | _ => false

/-- Whether a store to `x` may change what a read of `a` returns, by the write column of the region map
and of the port table (20_memory.md R64, R72, R77; 63_cartridge.md R424): a store to plain memory changes
the bytes that share its storage, a control write of the cartridge may move its windows, a store to a port
changes that port and what is computed from it, and the OAM copy reads its source page, whose answers from outside
the block it uses up. -/
def mayChange (s : State) (x a : Word) : Bool :=
  match regionOf x, regionOf a with
  | .cartRom _, .cartRom n => 0x4000 ≤ n
  | .cartRom _, .cartRam _ => true
  | .vram k, .vram j => k == j
  | .cartRam k, .cartRam j => extTarget s.cfg s.cart k == extTarget s.cfg s.cart j
  | .wram k, .wram j => k == j
  | .oam k, .oam j => k == j
  | .hram k, .hram j => k == j
  | .enable, .enable => true
  | .port .lcdc, .port q => q = .lcdc ∨ q = .ly ∨ q = .stat
  | .port .lyc, .port q => q = .lyc ∨ q = .stat
  | .port .dma, .port q => q = .dma
  | .port .dma, .oam _ => true
  | .port .dma, .external => true
  | .port .ly, .port _ => false
  | .port p, .port q => p = q
  | _, _ => false

/-- The storage of an address that holds plain bytes, readable and writable at all times (20_memory.md R66,
R68 to R70, R75, R76). -/
def isPlain (addr : Word) : Bool :=
  match regionOf addr with
  | .vram _ | .wram _ | .oam _ | .hram _ | .enable => true
  | _ => false

/-! ## Devices -/

/-- The mode at a line and a dot of an enabled display (62_display_timing.md R381). -/
def modeAt (ly dot : Nat) : Mode :=
  if 144 ≤ ly then .vblank
  else if dot < 80 then .searchOam
  else if dot < 252 then .transfer
  else .hblank

/-- The divider and its prescaler as one 16-bit count of cycles (61_timer.md R361). -/
def dividerCount (t : Timer) : Nat := t.div.toNat * 256 + t.divCnt

end Sys2Proof.Forms
end

