-- ==== Sys2Proof/Machine/Reset.lean ====
section
/-! DEFINITION. Power-on with every parameter the spec leaves open and the whole reset record as configuration
(10_state.md R40 to R42, 70_reset_and_hazards.md R470, R471). `State.reset` is one instance of it. -/

namespace Sys2Proof.Machine

/-- The parameters of a power-on (00_scope.md R7, R8): the cartridge and its RAM (`RAM_INIT`), `HALT_BUG`,
the reset record with the registers after the boot program (`RESET_REGS`), the contents of the four memories
(`MEM_INIT`), and the environment. -/
structure PowerOn where
  cfg    : Config
  record : ResetRecord
  cram   : Memory
  vram   : Memory
  wram   : Memory
  oam    : Memory
  hram   : Memory
  env    : Env
  deriving DecidableEq, Repr, Inhabited

/-- The state right after power-on, every part from the parameters; where the cartridge has the clock, `rtc` is
`RtcNow()` taken once (10_state.md R41). -/
def State.powerOn (p : PowerOn) : State where
  cfg := p.cfg
  cpu := p.record.cpu
  powered := p.record.powered
  irq := p.record.irq
  timer := p.record.timer
  lcd := p.record.lcd
  cart := { p.record.cart with rtc := if p.cfg.hasRtc then p.env.rtcAnswer else p.record.cart.rtc }
  cram := p.cram
  vram := p.vram
  wram := p.wram
  oam := p.oam
  hram := p.hram
  env := if p.cfg.hasRtc then p.env.tookRtc else p.env
  cost := 0
  opAddr := p.record.cpu.pc

end Sys2Proof.Machine
end

