-- ==== Sys2Proof/Certificates/Slice0/Obligations.lean ====
section
/-! DEFINITION. The statements about the model for the provers. An instruction statement gives, for every
form, the bytes that decode to it and the whole next state `exec` answers, so that what is not named there
is unchanged; PC already points past the instruction (00_scope.md R11). -/

open Sys2Proof Sys2Proof.Machine Sys2Proof.Forms

/-! ## Encoding -/

/-- Bytes written out from the spec's encodings decode to the instructions they stand for
(30_encoding.md R109 to R113). -/
def Obligations.SampleWordsDecode : Prop :=
  Decodes [0x00] .nop ∧ Decodes [0x41] .ldBC ∧ Decodes [0x36, 0xAB] (.ldAtHlN 0xAB) ∧
  Decodes [0x2A] .ldAAtHlInc ∧ Decodes [0x31, 0xF8, 0xFF] (.ldSpNn 0xFFF8) ∧
  Decodes [0x08, 0x00, 0xC1] (.ldAtNnSp 0xC100) ∧ Decodes [0xF5] .pushAf ∧ Decodes [0x9C] .sbcAH ∧
  Decodes [0xFE, 0x3C] (.cpN 0x3C) ∧ Decodes [0x29] .addHlHl ∧ Decodes [0xE8, 0x02] (.addSpE 0x02) ∧
  Decodes [0x0F] .rrca ∧ Decodes [0xCB, 0x37] .swapA ∧ Decodes [0xCB, 0x9E] (.resAtHl 3) ∧
  Decodes [0xCB, 0xCB] (.setE 1) ∧ Decodes [0xCA, 0x00, 0x80] (.jpZNn 0x8000) ∧
  Decodes [0x20, 0xFB] (.jrNzE 0xFB) ∧ Decodes [0xFF] .rst38 ∧ Decodes [0x10, 0x00] (.stop 0) ∧
  Decodes [0x76] .halt ∧ Decodes [0xED] (.illegal 0xED)

/-- Every well-formed instruction but the bare prefix is what its own bytes decode to, whatever follows
them; the bare prefix is what the byte 0xCB alone decodes to (log 13). -/
def Obligations.DecodeEncodeAgree : Prop :=
  (∀ (i : Instr) (rest : List Byte), i.wellFormed = true → i ≠ .prefixCb →
    decode (encode i ++ rest) = .ok (i, rest)) ∧
  decode (encode .prefixCb) = .ok (.prefixCb, [])

/-- Bytes that decode to an instruction are that instruction's bytes followed by what is left over, and
the instruction is well formed: no two encodings share a meaning and no bit is dropped. -/
def Obligations.EncodeDecodeAgree : Prop :=
  ∀ (bytes : List Byte) (i : Instr) (rest : List Byte), decode bytes = .ok (i, rest) →
    i.wellFormed = true ∧ encode i ++ rest = bytes

/-- The eleven bytes of 30_encoding.md R114, and no others, select no instruction; as later bytes they are
ordinary values; executed, such a byte stops with the fault that carries its address and itself
(46_misc.md R305). -/
def Obligations.IllegalBytes : Prop :=
  (∀ (op : Byte) (rest : List Byte) (i : Instr) (left : List Byte), decode (op :: rest) = .ok (i, left) →
    ((∃ b, i = .illegal b) ↔
      op ∈ [0xD3, 0xDB, 0xDD, 0xE3, 0xE4, 0xEB, 0xEC, 0xED, 0xF4, 0xFC, 0xFD]) ∧
    (∀ b, i = .illegal b → b = op ∧ left = rest)) ∧
  (∀ op ∈ illegalBytes, Decodes [op] (.illegal op) ∧
    ∀ s, exec (.illegal op) s = .fault (.illegalOpcode s.opAddr op))

/-- The first byte alone tells the length, and every start of three bytes is an instruction: the decoder
refuses nothing but bytes that end too soon (30_encoding.md R116). -/
def Obligations.LengthFromFirstByte : Prop :=
  ∀ (b0 b1 b2 : Byte) (rest : List Byte), ∃ i, i.wellFormed = true ∧
    decode (b0 :: b1 :: b2 :: rest) = .ok (i, (b0 :: b1 :: b2 :: rest).drop (instrLength b0)) ∧
    (b0 = 0xCB → instrLength b0 = 2) ∧ (encode i).length = instrLength b0

/-! ## 8-bit loads -/

/-- `LD r,r'`, `LD r,n`, `LD r,(HL)` (40_load8.md R131, R132, R133). -/
def Obligations.LoadRegister : Prop :=
  (∀ x ∈ loadRegister, Decodes [x.1] x.2.1 ∧
    ∀ s, exec x.2.1 s = .next { s.setReg x.2.2.1 (s.reg x.2.2.2) with cost := 4 }) ∧
  (∀ x ∈ loadImmediate, ∀ n, Decodes [x.1, n] (x.2.1 n) ∧
    ∀ s, exec (x.2.1 n) s = .next { s.setReg x.2.2 n with cost := 8 }) ∧
  (∀ x ∈ loadFromHl, Decodes [x.1] x.2.1 ∧
    ∀ s, exec x.2.1 s = .next { (s.afterRead s.hl).setReg x.2.2 (s.busRead s.hl) with cost := 8 })

/-- The byte stores: `LD (HL),r`, `LD (HL),n` and the stores of A through BC, DE, an absolute address and the
high page (40_load8.md R134, R135, R138, R139, R141, R143, R145). -/
def Obligations.Stores : Prop :=
  ((∀ x ∈ storeAtHl, Decodes [x.1] x.2.1 ∧
    ∀ s, exec x.2.1 s = .next { s.busWrite s.hl (s.reg x.2.2) with cost := 8 }) ∧
  (∀ n, Decodes [0x36, n] (.ldAtHlN n) ∧
    ∀ s, exec (.ldAtHlN n) s = .next { s.busWrite s.hl n with cost := 12 })) ∧
  (let stores (addr : Word) (n : Nat) (s : State) : Result :=
    .next { s.busWrite addr s.cpu.a with cost := n }
  (Decodes [0x02] .ldAtBcA ∧ ∀ s, exec .ldAtBcA s = stores (join s.cpu.b s.cpu.c) 8 s) ∧
  (Decodes [0x12] .ldAtDeA ∧ ∀ s, exec .ldAtDeA s = stores (join s.cpu.d s.cpu.e) 8 s) ∧
  (∀ nn, Decodes [0xEA, loByte nn, hiByte nn] (.ldAtNnA nn) ∧
    ∀ s, exec (.ldAtNnA nn) s = stores nn 16 s) ∧
  (∀ n, Decodes [0xE0, n] (.ldhAtNA n) ∧ ∀ s, exec (.ldhAtNA n) s = stores (join 0xFF n) 12 s) ∧
  (Decodes [0xE2] .ldhAtCA ∧ ∀ s, exec .ldhAtCA s = stores (join 0xFF s.cpu.c) 8 s))

/-- The loads of A through BC, DE, an absolute address and the high page, and the loads and stores of A
through HL that then move HL by one (40_load8.md R136, R137, R140, R142, R144, R146 to R149). -/
def Obligations.LoadAccumulator : Prop :=
  (let loads (addr : Word) (n : Nat) (s : State) : Result :=
    .next { s.afterRead addr with cpu := { s.cpu with a := s.busRead addr }, cost := n }
  (Decodes [0x0A] .ldAAtBc ∧ ∀ s, exec .ldAAtBc s = loads (join s.cpu.b s.cpu.c) 8 s) ∧
  (Decodes [0x1A] .ldAAtDe ∧ ∀ s, exec .ldAAtDe s = loads (join s.cpu.d s.cpu.e) 8 s) ∧
  (∀ nn, Decodes [0xFA, loByte nn, hiByte nn] (.ldAAtNn nn) ∧
    ∀ s, exec (.ldAAtNn nn) s = loads nn 16 s) ∧
  (∀ n, Decodes [0xF0, n] (.ldhAAtN n) ∧ ∀ s, exec (.ldhAAtN n) s = loads (join 0xFF n) 12 s) ∧
  (Decodes [0xF2] .ldhAAtC ∧ ∀ s, exec .ldhAAtC s = loads (join 0xFF s.cpu.c) 8 s)) ∧
  (let loads (hl' : Word) (s : State) : Result :=
    .next { s.afterRead s.hl with
      cpu := { s.cpu with a := s.busRead s.hl, h := hiByte hl', l := loByte hl' }, cost := 8 }
  let stores (hl' : Word) (s : State) : Result :=
    .next { s.busWrite s.hl s.cpu.a with
      cpu := { s.cpu with h := hiByte hl', l := loByte hl' }, cost := 8 }
  (Decodes [0x2A] .ldAAtHlInc ∧ ∀ s, exec .ldAAtHlInc s = loads (s.hl + 1) s) ∧
  (Decodes [0x3A] .ldAAtHlDec ∧ ∀ s, exec .ldAAtHlDec s = loads (s.hl - 1) s) ∧
  (Decodes [0x22] .ldAtHlIncA ∧ ∀ s, exec .ldAtHlIncA s = stores (s.hl + 1) s) ∧
  (Decodes [0x32] .ldAtHlDecA ∧ ∀ s, exec .ldAtHlDecA s = stores (s.hl - 1) s))

/-! ## 16-bit loads and the stack -/

/-- `LD rr,nn`, `LD SP,HL`, and `LD (nn),SP`, which stores the low byte at `nn`, then the high byte at
`nn + 1` (41_load16.md R161, R162, R163). -/
def Obligations.LoadPair : Prop :=
  ((∀ x ∈ loadPair, ∀ nn, Decodes [x.1, loByte nn, hiByte nn] (x.2.1 nn) ∧
    ∀ s, exec (x.2.1 nn) s = .next { s.setReg16 x.2.2 nn with cost := 12 }) ∧
  (Decodes [0xF9] .ldSpHl ∧
    ∀ s, exec .ldSpHl s = .next { s with cpu := { s.cpu with sp := s.hl }, cost := 8 })) ∧
  (∀ nn, Decodes [0x08, loByte nn, hiByte nn] (.ldAtNnSp nn) ∧
    ∀ s, exec (.ldAtNnSp nn) s = .next
      { (s.busWrite nn (s.cpu.sp.extractLsb' 0 8)).busWrite (nn + 1) (s.cpu.sp.extractLsb' 8 8) with
        cost := 20 })

/-- `LD HL,SP+e` and `ADD SP,e`: the flags are the carries of the unsigned addition of the low bytes
(41_load16.md R164, 43_alu16.md R234). -/
def Obligations.StackPointerPlus : Prop :=
  let flags (sp : Word) (e : Byte) : Flags :=
    { z := false, n := false, h := decide (sp.toNat % 16 + e.toNat % 16 > 0xF),
      c := decide (sp.toNat % 256 + e.toNat > 0xFF) }
  let sum (sp : Word) (e : Byte) : Word := BitVec.ofInt 16 (Int.ofNat sp.toNat + e.toInt)
  (∀ e, Decodes [0xF8, e] (.ldHlSpE e) ∧ ∀ s, exec (.ldHlSpE e) s = .next
    { s with
      cpu := { s.cpu with
        h := hiByte (sum s.cpu.sp e), l := loByte (sum s.cpu.sp e), f := flags s.cpu.sp e }
      cost := 12 }) ∧
  (∀ e, Decodes [0xE8, e] (.addSpE e) ∧ ∀ s, exec (.addSpE e) s = .next
    { s with cpu := { s.cpu with sp := sum s.cpu.sp e, f := flags s.cpu.sp e }, cost := 16 })

/-- `PUSH qq`: the high byte goes to SP - 1, then the low byte to SP - 2; `POP qq`: the low byte comes from
SP, then the high byte from SP + 1, and `POP AF` drops the low four bits (41_load16.md R160, R165, R166). -/
def Obligations.PushAndPop : Prop :=
  (∀ x ∈ pushForms, Decodes [x.1] x.2.1 ∧ ∀ s, exec x.2.1 s = .next
    { ((s.busWrite (s.cpu.sp - 1) (hiByte (s.stackPair x.2.2))).busWrite (s.cpu.sp - 2)
        (loByte (s.stackPair x.2.2))) with
      cpu := { s.cpu with sp := s.cpu.sp - 2 }, cost := 16 }) ∧
  (∀ x ∈ popForms, Decodes [x.1] x.2.1 ∧ ∀ s,
    let u := s.afterRead s.cpu.sp
    let lo := s.busRead s.cpu.sp
    let hi := u.busRead (s.cpu.sp + 1)
    let c := { s.cpu with sp := s.cpu.sp + 2 }
    exec x.2.1 s = .next
      { u.afterRead (s.cpu.sp + 1) with
        cpu := match x.2.2 with
          | .bc => { c with b := hi, c := lo }
          | .de => { c with d := hi, e := lo }
          | .hl => { c with h := hi, l := lo }
          | .af => { c with
              a := hi
              f := { z := lo.getLsbD 7, n := lo.getLsbD 6, h := lo.getLsbD 5, c := lo.getLsbD 4 } }
        cost := 12 })

/-! ## 8-bit arithmetic and logic -/

/-- `ADD` and `ADC` in all three operand forms: sum, and the flags of `Add8` (42_alu8.md R181, R185 to
R190). -/
def Obligations.Add8 : Prop :=
  let adds (u : State) (b cin : Nat) (n : Nat) (s : State) : Result :=
    let a := s.cpu.a.toNat
    .next { u with
      cpu := { s.cpu with
        a := BitVec.ofNat 8 (a + b + cin)
        f := {
          z := decide ((a + b + cin) % 256 = 0)
          n := false
          h := decide (a % 16 + b % 16 + cin > 0xF)
          c := decide (a + b + cin > 0xFF) } }
      cost := n }
  (∀ x ∈ addForms, Decodes [x.1] x.2.1 ∧ ∀ s, exec x.2.1 s =
    adds (s.afterOperand x.2.2) (s.operand x.2.2).toNat 0 (if x.2.2 = .atHl then 8 else 4) s) ∧
  (∀ x ∈ adcForms, Decodes [x.1] x.2.1 ∧ ∀ s, exec x.2.1 s =
    adds (s.afterOperand x.2.2) (s.operand x.2.2).toNat s.cpu.f.c.toNat
      (if x.2.2 = .atHl then 8 else 4) s) ∧
  (∀ n, Decodes [0xC6, n] (.addAN n) ∧ ∀ s, exec (.addAN n) s = adds s n.toNat 0 8 s) ∧
  (∀ n, Decodes [0xCE, n] (.adcAN n) ∧ ∀ s, exec (.adcAN n) s = adds s n.toNat s.cpu.f.c.toNat 8 s)

/-- `SUB`, `SBC` and `CP` in all three operand forms: difference, and the flags of `Sub8`; `CP` keeps A
(42_alu8.md R182, R191 to R196, R206 to R208). -/
def Obligations.Sub8 : Prop :=
  let subs (keepA : Bool) (u : State) (b cin : Nat) (n : Nat) (s : State) : Result :=
    let a := s.cpu.a.toNat
    .next { u with
      cpu := { s.cpu with
        a := if keepA then s.cpu.a else BitVec.ofNat 8 (a + 512 - b - cin)
        f := {
          z := decide ((a + 512 - b - cin) % 256 = 0)
          n := true
          h := decide (a % 16 < b % 16 + cin)
          c := decide (a < b + cin) } }
      cost := n }
  (∀ x ∈ subForms, Decodes [x.1] x.2.1 ∧ ∀ s, exec x.2.1 s =
    subs false (s.afterOperand x.2.2) (s.operand x.2.2).toNat 0 (if x.2.2 = .atHl then 8 else 4) s) ∧
  (∀ x ∈ sbcForms, Decodes [x.1] x.2.1 ∧ ∀ s, exec x.2.1 s =
    subs false (s.afterOperand x.2.2) (s.operand x.2.2).toNat s.cpu.f.c.toNat
      (if x.2.2 = .atHl then 8 else 4) s) ∧
  (∀ x ∈ cpForms, Decodes [x.1] x.2.1 ∧ ∀ s, exec x.2.1 s =
    subs true (s.afterOperand x.2.2) (s.operand x.2.2).toNat 0 (if x.2.2 = .atHl then 8 else 4) s) ∧
  (∀ n, Decodes [0xD6, n] (.subN n) ∧ ∀ s, exec (.subN n) s = subs false s n.toNat 0 8 s) ∧
  (∀ n, Decodes [0xDE, n] (.sbcAN n) ∧
    ∀ s, exec (.sbcAN n) s = subs false s n.toNat s.cpu.f.c.toNat 8 s) ∧
  (∀ n, Decodes [0xFE, n] (.cpN n) ∧ ∀ s, exec (.cpN n) s = subs true s n.toNat 0 8 s)

/-- `AND`, `XOR` and `OR` in all three operand forms (42_alu8.md R197 to R205). -/
def Obligations.Logic8 : Prop :=
  let puts (u : State) (r : Byte) (h : Bool) (n : Nat) (s : State) : Result :=
    .next { u with
      cpu := { s.cpu with a := r, f := { z := decide (r = 0), n := false, h := h, c := false } }
      cost := n }
  (∀ x ∈ andForms, Decodes [x.1] x.2.1 ∧ ∀ s, exec x.2.1 s =
    puts (s.afterOperand x.2.2) (s.cpu.a &&& s.operand x.2.2) true (if x.2.2 = .atHl then 8 else 4) s) ∧
  (∀ x ∈ xorForms, Decodes [x.1] x.2.1 ∧ ∀ s, exec x.2.1 s =
    puts (s.afterOperand x.2.2) (s.cpu.a ^^^ s.operand x.2.2) false (if x.2.2 = .atHl then 8 else 4) s) ∧
  (∀ x ∈ orForms, Decodes [x.1] x.2.1 ∧ ∀ s, exec x.2.1 s =
    puts (s.afterOperand x.2.2) (s.cpu.a ||| s.operand x.2.2) false (if x.2.2 = .atHl then 8 else 4) s) ∧
  (∀ n, Decodes [0xE6, n] (.andN n) ∧ ∀ s, exec (.andN n) s = puts s (s.cpu.a &&& n) true 8 s) ∧
  (∀ n, Decodes [0xEE, n] (.xorN n) ∧ ∀ s, exec (.xorN n) s = puts s (s.cpu.a ^^^ n) false 8 s) ∧
  (∀ n, Decodes [0xF6, n] (.orN n) ∧ ∀ s, exec (.orN n) s = puts s (s.cpu.a ||| n) false 8 s)

/-- `INC` and `DEC` of a register and of the byte at HL: C unchanged, the flags from the value read
(42_alu8.md R209 to R212). -/
def Obligations.IncDec8 : Prop :=
  let puts (o : Operand8) (r : Byte) (n h : Bool) (s : State) : Result :=
    let u := (s.afterOperand o).setOperand o r
    .next { u with
      cpu := { u.cpu with f := { z := decide (r = 0), n := n, h := h, c := s.cpu.f.c } }
      cost := if o = .atHl then 12 else 4 }
  (∀ x ∈ incForms, Decodes [x.1] x.2.1 ∧ ∀ s, exec x.2.1 s =
    puts x.2.2 (s.operand x.2.2 + 1) false (decide ((s.operand x.2.2).toNat % 16 = 15)) s) ∧
  (∀ x ∈ decForms, Decodes [x.1] x.2.1 ∧ ∀ s, exec x.2.1 s =
    puts x.2.2 (s.operand x.2.2 - 1) true (decide ((s.operand x.2.2).toNat % 16 = 0)) s)

/-- `DAA`: what is added to or taken from A, and the flags; `CPL`, `SCF` and `CCF` (42_alu8.md R213 to
R216). -/
def Obligations.DecimalAdjust : Prop :=
  (Decodes [0x27] .daa ∧ ∀ s,
    let a := s.cpu.a
    let f := s.cpu.f
    let six := f.h = true ∨ (f.n = false ∧ a.toNat % 16 > 9)
    let sixty := f.c = true ∨ (f.n = false ∧ a.toNat > 0x99)
    let adj : Byte := BitVec.ofNat 8 ((if six then 0x06 else 0) + (if sixty then 0x60 else 0))
    let r := if f.n then a - adj else a + adj
    exec .daa s = .next { s with
      cpu := { s.cpu with a := r, f := { z := decide (r = 0), n := f.n, h := false, c := decide sixty } }
      cost := 4 }) ∧
  ((Decodes [0x2F] .cpl ∧ ∀ s, exec .cpl s = .next { s with
    cpu := { s.cpu with a := ~~~s.cpu.a, f := { s.cpu.f with n := true, h := true } }, cost := 4 }) ∧
  (Decodes [0x37] .scf ∧ ∀ s, exec .scf s = .next { s with
    cpu := { s.cpu with f := { s.cpu.f with n := false, h := false, c := true } }, cost := 4 }) ∧
  (Decodes [0x3F] .ccf ∧ ∀ s, exec .ccf s = .next { s with
    cpu := { s.cpu with f := { s.cpu.f with n := false, h := false, c := !s.cpu.f.c } }, cost := 4 }))

/-! ## 16-bit arithmetic -/

/-- `ADD HL,rr`: Z unchanged, H the carry out of bit 11, C out of bit 15; `INC rr` and `DEC rr`: no flag
changes (43_alu16.md R231, R232, R233). -/
def Obligations.PairArithmetic : Prop :=
  (∀ x ∈ addHlForms, Decodes [x.1] x.2.1 ∧ ∀ s,
    let a := s.hl.toNat
    let b := (s.reg16 x.2.2).toNat
    exec x.2.1 s = .next { s with
      cpu := { s.cpu with
        h := BitVec.ofNat 8 ((a + b) / 256), l := BitVec.ofNat 8 (a + b)
        f := { s.cpu.f with
          n := false, h := decide (a % 4096 + b % 4096 > 0xFFF), c := decide (a + b > 0xFFFF) } }
      cost := 8 }) ∧
  ((∀ x ∈ incPairForms, Decodes [x.1] x.2.1 ∧
    ∀ s, exec x.2.1 s = .next { s.setReg16 x.2.2 (s.reg16 x.2.2 + 1) with cost := 8 }) ∧
  (∀ x ∈ decPairForms, Decodes [x.1] x.2.1 ∧
    ∀ s, exec x.2.1 s = .next { s.setReg16 x.2.2 (s.reg16 x.2.2 - 1) with cost := 8 }))

/-! ## Rotates, shifts and bits -/

/-- The eight functions of 44_rotate_shift_bit.md R240 as shifts and rotations of the byte, and `RLCA`,
`RLA`, `RRCA`, `RRA`, which always clear Z (R241 to R244). -/
def Obligations.RotateAccumulator : Prop :=
  (∀ (v : Byte) (c : Bool),
    RotOp.rlc.apply v c = (v.rotateLeft 1, v.msb) ∧
    RotOp.rrc.apply v c = (v.rotateRight 1, v.getLsbD 0) ∧
    RotOp.rl.apply v c = (v <<< 1 ||| (BitVec.ofBool c).setWidth 8, v.msb) ∧
    RotOp.rr.apply v c = (v >>> 1 ||| (BitVec.ofBool c).setWidth 8 <<< 7, v.getLsbD 0) ∧
    RotOp.sla.apply v c = (v <<< 1, v.msb) ∧
    RotOp.sra.apply v c = (v.sshiftRight 1, v.getLsbD 0) ∧
    RotOp.swap.apply v c = (v.rotateLeft 4, false) ∧
    RotOp.srl.apply v c = (v >>> 1, v.getLsbD 0)) ∧
  (let puts (a : Byte) (co : Bool) (s : State) : Result :=
    .next { s with
      cpu := { s.cpu with a := a, f := { z := false, n := false, h := false, c := co } }, cost := 4 }
  (Decodes [0x07] .rlca ∧ ∀ s, exec .rlca s = puts (s.cpu.a.rotateLeft 1) s.cpu.a.msb s) ∧
  (Decodes [0x17] .rla ∧ ∀ s, exec .rla s =
    puts (s.cpu.a <<< 1 ||| (BitVec.ofBool s.cpu.f.c).setWidth 8) s.cpu.a.msb s) ∧
  (Decodes [0x0F] .rrca ∧ ∀ s, exec .rrca s = puts (s.cpu.a.rotateRight 1) (s.cpu.a.getLsbD 0) s) ∧
  (Decodes [0x1F] .rra ∧ ∀ s, exec .rra s =
    puts (s.cpu.a >>> 1 ||| (BitVec.ofBool s.cpu.f.c).setWidth 8 <<< 7) (s.cpu.a.getLsbD 0) s))

/-- The rotates and shifts behind 0xCB, on a register and on the byte at HL: Z from the result, N and H
cleared, C the bit moved out (44_rotate_shift_bit.md R246 to R261). -/
def Obligations.RotateAndShift : Prop :=
  ∀ x ∈ rotateForms, Decodes [0xCB, x.1] x.2.1 ∧ ∀ s,
    let r := RotOp.apply x.2.2.1 (s.operand x.2.2.2) s.cpu.f.c
    let u := (s.afterOperand x.2.2.2).setOperand x.2.2.2 r.1
    exec x.2.1 s = .next { u with
      cpu := { u.cpu with f := { z := decide (r.1 = 0), n := false, h := false, c := r.2 } }
      cost := if x.2.2.2 = .atHl then 16 else 8 }

/-- `BIT b,x`: Z is the complement of the bit, C is unchanged and nothing is written but the flags;
`RES b,x` and `SET b,x`: the one bit, no flag (44_rotate_shift_bit.md R262 to R267). -/
def Obligations.BitInstructions : Prop :=
  (∀ x ∈ bitForms, ∀ b : BitIndex, Decodes [0xCB, x.1 + 8 * b.setWidth 8] (x.2.1 b) ∧
    ∀ s, exec (x.2.1 b) s = .next { s.afterOperand x.2.2 with
      cpu := { s.cpu with
        f := { z := !(s.operand x.2.2).getLsbD b.toNat, n := false, h := true, c := s.cpu.f.c } }
      cost := if x.2.2 = .atHl then 12 else 8 }) ∧
  ((∀ x ∈ resForms, ∀ b : BitIndex, Decodes [0xCB, x.1 + 8 * b.setWidth 8] (x.2.1 b) ∧
    ∀ s, exec (x.2.1 b) s = .next
      { (s.afterOperand x.2.2).setOperand x.2.2 (s.operand x.2.2 &&& ~~~(1#8 <<< b.toNat)) with
        cost := if x.2.2 = .atHl then 16 else 8 }) ∧
  (∀ x ∈ setForms, ∀ b : BitIndex, Decodes [0xCB, x.1 + 8 * b.setWidth 8] (x.2.1 b) ∧
    ∀ s, exec (x.2.1 b) s = .next
      { (s.afterOperand x.2.2).setOperand x.2.2 (s.operand x.2.2 ||| 1#8 <<< b.toNat) with
        cost := if x.2.2 = .atHl then 16 else 8 }))

/-- The prefix 0xCB: with the byte `op2` at PC it does what the instruction of `0xCB op2` does once that
byte is fetched, and it never stops (44_rotate_shift_bit.md R245; that the bare byte is an instruction of
its own is the model's reading, log 13). -/
def Obligations.CbPrefix : Prop :=
  ∀ (s : State) (i : Instr), decode [0xCB, s.busRead s.cpu.pc] = .ok (i, []) →
    exec .prefixCb s = exec i s.afterFetch8 ∧ ∃ t, exec .prefixCb s = .next t

/-! ## Control transfer -/

/-- The four conditions, and `JP nn`, `JP cc,nn`, `JP HL`, `JR e`, `JR cc,e` (45_control.md R280 to R285): a
relative target counts from the byte after the instruction. -/
def Obligations.Jumps : Prop :=
  (∀ f : Flags, (Cond.nz.holds f = true ↔ f.z = false) ∧ (Cond.z.holds f = true ↔ f.z = true) ∧
    (Cond.nc.holds f = true ↔ f.c = false) ∧ (Cond.c.holds f = true ↔ f.c = true)) ∧
  (let goes (pc : Word) (n : Nat) (s : State) : Result :=
    .next { s with cpu := { s.cpu with pc := pc }, cost := n }
  let target (s : State) (e : Byte) : Word := BitVec.ofInt 16 (Int.ofNat s.cpu.pc.toNat + e.toInt)
  (∀ nn, Decodes [0xC3, loByte nn, hiByte nn] (.jpNn nn) ∧
    ∀ s, exec (.jpNn nn) s = goes nn 16 s) ∧
  (∀ x ∈ jumpForms, ∀ nn, Decodes [x.1, loByte nn, hiByte nn] (x.2.1 nn) ∧
    ∀ s, exec (x.2.1 nn) s = if x.2.2.holds s.cpu.f then goes nn 16 s else goes s.cpu.pc 12 s) ∧
  (Decodes [0xE9] .jpHl ∧ ∀ s, exec .jpHl s = goes s.hl 4 s) ∧
  (∀ e, Decodes [0x18, e] (.jrE e) ∧ ∀ s, exec (.jrE e) s = goes (target s e) 12 s) ∧
  (∀ x ∈ jumpRelativeForms, ∀ e, Decodes [x.1, e] (x.2.1 e) ∧
    ∀ s, exec (x.2.1 e) s = if x.2.2.holds s.cpu.f then goes (target s e) 12 s else goes s.cpu.pc 8 s))

/-- `CALL nn`, `CALL cc,nn`, `RST t`: PC is pushed, high byte first, and PC is the target
(45_control.md R286, R287, R291). -/
def Obligations.CallsAndRestarts : Prop :=
  let calls (target : Word) (n : Nat) (s : State) : Result :=
    .next { ((s.busWrite (s.cpu.sp - 1) (hiByte s.cpu.pc)).busWrite (s.cpu.sp - 2) (loByte s.cpu.pc)) with
      cpu := { s.cpu with sp := s.cpu.sp - 2, pc := target }, cost := n }
  (∀ nn, Decodes [0xCD, loByte nn, hiByte nn] (.callNn nn) ∧
    ∀ s, exec (.callNn nn) s = calls nn 24 s) ∧
  (∀ x ∈ callForms, ∀ nn, Decodes [x.1, loByte nn, hiByte nn] (x.2.1 nn) ∧
    ∀ s, exec (x.2.1 nn) s =
      if x.2.2.holds s.cpu.f then calls nn 24 s else .next { s with cost := 12 }) ∧
  (∀ x ∈ restartForms, Decodes [x.1] x.2.1 ∧ ∀ s, exec x.2.1 s = calls x.2.2 16 s)

/-- `RET`, `RET cc`, `RETI`: PC is popped, low byte first; `RETI` sets IME at once (45_control.md R288 to
R290). -/
def Obligations.Returns : Prop :=
  let pops (ime ei : Bool) (n : Nat) (s : State) : Result :=
    let u := s.afterRead s.cpu.sp
    .next { u.afterRead (s.cpu.sp + 1) with
      cpu := { s.cpu with
        sp := s.cpu.sp + 2
        pc := join (u.busRead (s.cpu.sp + 1)) (s.busRead s.cpu.sp)
        ime := ime
        eiPending := ei }
      cost := n }
  (Decodes [0xC9] .ret ∧ ∀ s, exec .ret s = pops s.cpu.ime s.cpu.eiPending 16 s) ∧
  (∀ x ∈ returnForms, Decodes [x.1] x.2.1 ∧ ∀ s, exec x.2.1 s =
    if x.2.2.holds s.cpu.f then pops s.cpu.ime s.cpu.eiPending 20 s else .next { s with cost := 8 }) ∧
  (Decodes [0xD9] .reti ∧ ∀ s, exec .reti s = pops true false 16 s)

/-! ## NOP, DI, EI, HALT, STOP and the illegal bytes -/

/-- `NOP` and `DI` (46_misc.md R300, R303). -/
def Obligations.NopAndDi : Prop :=
  (Decodes [0x00] .nop ∧ ∀ s, exec .nop s = .next { s with cost := 4 }) ∧
  (Decodes [0xF3] .di ∧ ∀ s, exec .di s = .next { s with
    cpu := { s.cpu with ime := false, eiPending := false }, cost := 4 })

/-- `EI` sets `ei_pending` when IME is 0 and changes nothing when it is 1; the next instruction executes with
IME already 1, and no request is dispatched before it (46_misc.md R304). -/
def Obligations.EnableInterrupts : Prop :=
  (Decodes [0xFB] .ei ∧ ∀ s, exec .ei s = .next { s with
    cpu := { s.cpu with eiPending := if s.cpu.ime then s.cpu.eiPending else true }, cost := 4 }) ∧
  (∀ s : State, s.powered = true → s.cfg.accepted = true → s.env.powerOffNow = false →
    s.cpu.halted = false → s.cpu.ime = false → s.cpu.eiPending = true →
    step s = finishStep (State.executeInstruction { s with
      cpu := { s.cpu with ime := true, eiPending := false } }))

/-- `HALT` and `STOP`, for both settings of `HALT_BUG` and every pad byte (46_misc.md R301, R302). -/
def Obligations.HaltAndStop : Prop :=
  let halts (s : State) : Result :=
    if s.cfg.haltBug = true ∧ s.cpu.ime = false ∧ s.irq.enable.extractLsb' 0 5 &&& s.irq.flags ≠ 0 then
      .next { s with cpu := { s.cpu with haltbugLatch := true }, cost := 4 }
    else .next { s with cpu := { s.cpu with halted := true }, cost := 4 }
  (Decodes [0x76] .halt ∧ ∀ s, exec .halt s = halts s) ∧
  (∀ pad, Decodes [0x10, pad] (.stop pad) ∧ ∀ s, exec (.stop pad) s = halts s)

/-! ## Registers -/

/-- The registers are independent, a pair is its two halves with the first-named register on top, a write
of a pair writes both halves, and F keeps only its upper four bits (10_state.md R20, R21, R23). -/
def Obligations.RegisterFile : Prop :=
  (∀ (s : State) (r q : Reg8) (v : Byte), (s.setReg r v).reg q = if q = r then v else s.reg q) ∧
  (∀ s : State, s.bc = s.reg .b ++ s.reg .c ∧ s.de = s.reg .d ++ s.reg .e ∧ s.hl = s.reg .h ++ s.reg .l ∧
    s.af = s.reg .a ++ s.fByte) ∧
  (∀ (s : State) (r q : Reg16) (v : Word), (s.setReg16 r v).reg16 q = if q = r then v else s.reg16 q) ∧
  (∀ (s : State) (q : StackPair) (v : Word), (s.setStackPair q v).stackPair q =
    if q = .af then v &&& 0xFFF0 else v) ∧
  (∀ (v : Byte), (Flags.ofByte v).toByte = v &&& 0xF0) ∧
  (∀ f : Flags, f.toByte &&& 0x0F = 0)

/-! ## Frames -/

/-- Every register an instruction does not write keeps its value: the 8-bit registers, SP, PC, the
interrupt latches and the halt latches. -/
def Obligations.RegisterFrame : Prop :=
  ∀ (i : Instr) (s t : State), exec i s = .next t →
    (∀ r, r ∉ writtenRegisters i → t.reg r = s.reg r) ∧
    (writesSp i = false → t.cpu.sp = s.cpu.sp) ∧
    (writesPc i = false → t.cpu.pc = s.cpu.pc) ∧
    (writesIme i = false → t.cpu.ime = s.cpu.ime ∧ t.cpu.eiPending = s.cpu.eiPending) ∧
    (writesHalt i = false → t.cpu.halted = s.cpu.halted ∧ t.cpu.haltbugLatch = s.cpu.haltbugLatch)

/-- Every flag follows the flag table (42_alu8.md R183): unchanged, cleared or set where the table says
so. -/
def Obligations.FlagTable : Prop :=
  ∀ (i : Instr) (s t : State), exec i s = .next t →
    (flagRow i).z.agrees s.cpu.f.z t.cpu.f.z ∧ (flagRow i).n.agrees s.cpu.f.n t.cpu.f.n ∧
    (flagRow i).h.agrees s.cpu.f.h t.cpu.f.h ∧ (flagRow i).c.agrees s.cpu.f.c t.cpu.f.c

/-- Every byte of memory reads as before, but for what a store to the addresses the instruction stores to
may change. For a form that stores nothing this is all of memory. The answers of the devices outside the
block are included unless the instruction itself reads one of them. -/
def Obligations.MemoryFrame : Prop :=
  ∀ (i : Instr) (s t : State) (a : Word), exec i s = .next t →
    (∀ x ∈ storesTo s i, mayChange s x a = false) →
    (isExternal a = true → ∀ x ∈ readsFrom s i, isExternal x = false) →
    t.busRead a = s.busRead a

/-- A form that stores nothing changes nothing outside the CPU registers and its cost, but for answers of
outside devices used up where it reads one; and no form at all changes a parameter, `powered`, or the inputs
of the outer steps, and every cost is one of the six of 70_reset_and_hazards.md R486. -/
def Obligations.DeviceFrame : Prop :=
  ∀ (i : Instr) (s t : State), exec i s = .next t →
    (storesTo s i = [] → t = { s with
      cpu := t.cpu, cost := t.cost, env := { s.env with ioIn := t.env.ioIn, ioCount := t.env.ioCount } }) ∧
    (storesTo s i = [] → (∀ x ∈ readsFrom s i, isExternal x = false) → t.env = s.env) ∧
    t.cfg = s.cfg ∧ t.powered = s.powered ∧ t.env.steps = s.env.steps ∧ t.env.stepCount = s.env.stepCount ∧
    t.opAddr = s.opAddr ∧
    t.cost ∈ [4, 8, 12, 16, 20, 24]

/-! ## Memory -/

/-- The region map (20_memory.md R64, R72, R74): every address of a row belongs to the row's region, at
the row's offset; every address of the page 0xFF00 that has no owner is unmapped. -/
def Obligations.RegionMap : Prop :=
  ∀ a : Word, let n := a.toNat
    (n < 0x8000 → regionOf a = .cartRom n) ∧
    (0x8000 ≤ n ∧ n < 0xA000 → regionOf a = .vram (n - 0x8000)) ∧
    (0xA000 ≤ n ∧ n < 0xC000 → regionOf a = .cartRam (n - 0xA000)) ∧
    (0xC000 ≤ n ∧ n < 0xE000 → regionOf a = .wram (n - 0xC000)) ∧
    (0xE000 ≤ n ∧ n < 0xFE00 → regionOf a = regionOf (a - 0x2000)) ∧
    (0xFE00 ≤ n ∧ n < 0xFEA0 → regionOf a = .oam (n - 0xFE00)) ∧
    (0xFEA0 ≤ n ∧ n < 0xFF00 → regionOf a = .unmapped) ∧
    ((0xFF00 ≤ n ∧ n ≤ 0xFF02) ∨ (0xFF10 ≤ n ∧ n ≤ 0xFF3F) → regionOf a = .external) ∧
    (n = 0xFF03 ∨ (0xFF08 ≤ n ∧ n ≤ 0xFF0E) ∨ (0xFF4C ≤ n ∧ n ≤ 0xFF7F) → regionOf a = .unmapped) ∧
    ((0xFF04 ≤ n ∧ n ≤ 0xFF07) ∨ n = 0xFF0F ∨ (0xFF40 ≤ n ∧ n ≤ 0xFF4B) → ∃ p, regionOf a = .port p) ∧
    (0xFF80 ≤ n ∧ n < 0xFFFF → regionOf a = .hram (n - 0xFF80)) ∧
    (n = 0xFFFF → regionOf a = .enable)

/-- 0xE000 to 0xFDFF mirrors working RAM for reads and for writes; an unmapped address reads 0xFF, a write
of it does nothing, and neither is an error (20_memory.md R63, R69, R71, R73). -/
def Obligations.MirrorAndUnmapped : Prop :=
  (∀ (s : State) (a : Word) (v : Byte), 0xE000 ≤ a.toNat → a.toNat ≤ 0xFDFF →
    s.busRead a = s.busRead (a - 0x2000) ∧ s.busWrite a v = s.busWrite (a - 0x2000) v) ∧
  (∀ (s : State) (a : Word) (v : Byte),
    ((0xFEA0 ≤ a.toNat ∧ a.toNat < 0xFF00) ∨ a = 0xFF03 ∨ (0xFF08 ≤ a.toNat ∧ a.toNat ≤ 0xFF0E) ∨
      (0xFF4C ≤ a.toNat ∧ a.toNat ≤ 0xFF7F)) →
    s.busRead a = 0xFF ∧ s.busWrite a v = s ∧ s.afterRead a = s)

/-- Video RAM, working RAM, OAM, high RAM and IE are plain storage: a read gives the byte last written
(20_memory.md R66, R68, R70, R75, R76). -/
def Obligations.PlainStorage : Prop :=
  ∀ (s : State) (a : Word) (v : Byte), isPlain a = true →
    (s.busWrite a v).busRead a = v ∧ (s.busWrite a v).cpu = s.cpu ∧ s.afterRead a = s

/-- A store changes what reads return only where the write column of its region says so, whatever the
state (20_memory.md R62, R78). -/
def Obligations.StoreChangesOnly : Prop :=
  ∀ (s : State) (x a : Word) (v : Byte), mayChange s x a = false →
    (s.busWrite x v).busRead a = s.busRead a

/-- No read of an in-scope address changes state; a read of a device outside the block uses up one answer
and nothing else: the first of those listed, or, where none is, one of the free ones, counted by `ioCount`
(20_memory.md R74, R78; log 2). -/
def Obligations.ReadsKeepState : Prop :=
  ∀ (s : State) (a : Word),
    (isExternal a = false → s.afterRead a = s) ∧
    (isExternal a = true → s.busRead a = s.env.ioAnswer a ∧
      s.afterRead a = { s with env := s.env.tookIo } ∧
      (∀ v rest, s.env.ioIn = v :: rest →
        s.env.ioAnswer a = v ∧ s.env.tookIo = { s.env with ioIn := rest }) ∧
      (s.env.ioIn = [] → s.env.tookIo = { s.env with ioCount := s.env.ioCount + 1 }) ∧
      ∀ v, s.busWrite a v = { s with env := { s.env with ioOut := (a, v) :: s.env.ioOut } })

/-- What the in-scope ports read as (20_memory.md R72). -/
def Obligations.PortReads : Prop :=
  ∀ s : State,
    s.busRead 0xFF04 = s.timer.div ∧ s.busRead 0xFF05 = s.timer.tima ∧ s.busRead 0xFF06 = s.timer.tma ∧
    s.busRead 0xFF07 = s.timer.tac ∧ s.busRead 0xFF0F = 0xE0 ||| s.irq.flags.setWidth 8 ∧
    s.busRead 0xFF40 = s.lcd.lcdc ∧
    s.busRead 0xFF41 = 0x80 ||| s.lcd.statEn.setWidth 8 <<< 3 |||
      (if s.lcd.ly = s.lcd.lyc then 4 else 0) ||| s.lcd.mode.number.setWidth 8 ∧
    s.busRead 0xFF42 = s.lcd.scy ∧ s.busRead 0xFF43 = s.lcd.scx ∧ s.busRead 0xFF44 = s.lcd.ly ∧
    s.busRead 0xFF45 = s.lcd.lyc ∧ s.busRead 0xFF46 = s.lcd.dma ∧ s.busRead 0xFF47 = s.lcd.bgp ∧
    s.busRead 0xFF48 = s.lcd.obp0 ∧ s.busRead 0xFF49 = s.lcd.obp1 ∧ s.busRead 0xFF4A = s.lcd.wy ∧
    s.busRead 0xFF4B = s.lcd.wx ∧ s.busRead 0xFFFF = s.irq.enable

/-- What a write of an in-scope port does, the OAM copy apart (20_memory.md R72, R76; 61_timer.md R362, R365;
62_display_timing.md R383, R396, R397): either edge of LCDC bit 7 restarts the display at line 0. -/
def Obligations.PortWrites : Prop :=
  (∀ (s : State) (v : Byte),
    s.busWrite 0xFF04 v = { s with timer := { s.timer with div := 0, divCnt := 0 } } ∧
    s.busWrite 0xFF05 v = { s with timer := { s.timer with tima := v } } ∧
    s.busWrite 0xFF06 v = { s with timer := { s.timer with tma := v } } ∧
    s.busWrite 0xFF07 v = { s with timer := { s.timer with tac := v } } ∧
    s.busWrite 0xFF0F v = { s with irq := { s.irq with flags := v.setWidth 5 } } ∧
    s.busWrite 0xFF41 v = { s with lcd := { s.lcd with statEn := (v >>> 3).setWidth 4 } } ∧
    s.busWrite 0xFF42 v = { s with lcd := { s.lcd with scy := v } } ∧
    s.busWrite 0xFF43 v = { s with lcd := { s.lcd with scx := v } } ∧
    s.busWrite 0xFF44 v = s ∧
    s.busWrite 0xFF45 v = { s with lcd := { s.lcd with lyc := v } } ∧
    s.busWrite 0xFF47 v = { s with lcd := { s.lcd with bgp := v } } ∧
    s.busWrite 0xFF48 v = { s with lcd := { s.lcd with obp0 := v } } ∧
    s.busWrite 0xFF49 v = { s with lcd := { s.lcd with obp1 := v } } ∧
    s.busWrite 0xFF4A v = { s with lcd := { s.lcd with wy := v } } ∧
    s.busWrite 0xFF4B v = { s with lcd := { s.lcd with wx := v } } ∧
    s.busWrite 0xFFFF v = { s with irq := { s.irq with enable := v } }) ∧
  (∀ (s : State) (v : Byte),
    (s.lcd.lcdc.getLsbD 7 = true → v.getLsbD 7 = false →
      s.busWrite 0xFF40 v = { s with lcd := { s.lcd with lcdc := v, ly := 0, dot := 0, mode := .hblank } }) ∧
    (s.lcd.lcdc.getLsbD 7 = false → v.getLsbD 7 = true →
      s.busWrite 0xFF40 v =
        { s with lcd := { s.lcd with lcdc := v, ly := 0, dot := 0, mode := .searchOam } }) ∧
    (s.lcd.lcdc.getLsbD 7 = v.getLsbD 7 → s.busWrite 0xFF40 v = { s with lcd := { s.lcd with lcdc := v } }))

/-- The OAM copy (20_memory.md R77): 160 bytes of the page, read through the dispatcher, at no cycle cost,
and nothing else but DMA changes; an answer of an outside device is used up where the page reaches one. -/
def Obligations.OamCopy : Prop :=
  ∀ (s : State) (v : Byte),
    let src (i : Nat) : Word := join v 0 + BitVec.ofNat 16 i
    let t := s.busWrite 0xFF46 v
    let u := { s with lcd := { s.lcd with dma := v } }
    t = { u with oam := t.oam, env := t.env } ∧
    (∀ i, i < 160 → isExternal (src i) = false → t.oam.read i = u.busRead (src i)) ∧
    (v ≠ 0xFF → t.env = s.env)

/-! ## Cartridge -/

/-- The ROM windows: bank 0 is fixed, the other window shows the current bank, bank numbers wrapping modulo
the bank count; no control write changes the image; with no bank controller the window shows bank 1,
control writes do nothing and the RAM is always enabled (63_cartridge.md R422, R424, R425; the wrap is the
spec's decision D20, log 21). -/
def Obligations.RomWindows : Prop :=
  (∀ (s : State) (a : Word) (v : Byte), a.toNat < 0x8000 →
    (a.toNat < 0x4000 → s.busRead a = s.cfg.rom.read a.toNat) ∧
    (0x4000 ≤ a.toNat → s.busRead a =
      s.cfg.rom.read (s.cart.currentRomBank s.cfg.kind % (s.cfg.romLength / 0x4000) * 0x4000 +
        (a.toNat - 0x4000))) ∧
    (s.busWrite a v).cfg = s.cfg) ∧
  (∀ (s : State) (a : Word) (v : Byte), s.cfg.kind = .direct →
    s.cart.currentRomBank s.cfg.kind = 1 ∧
    (a.toNat < 0x8000 → s.busWrite a v = s) ∧
    (0xA000 ≤ a.toNat ∧ a.toNat < 0xC000 →
      (s.cfg.ramSize = 0 → s.busRead a = 0xFF ∧ s.busWrite a v = s) ∧
      (s.cfg.ramSize ≠ 0 → s.busRead a = s.cram.read ((a.toNat - 0xA000) % s.cfg.ramSize) ∧
        s.busWrite a v = { s with cram := s.cram.write ((a.toNat - 0xA000) % s.cfg.ramSize) v })))

/-- MBC1: the control writes, the effective ROM bank, and the RAM window, whose bank is `bank2` in RAM
banking and 0 otherwise (63_cartridge.md R426 to R431; the remap of bank 0 and the effective banks are the
spec's decisions D23 and D22, log 21). -/
def Obligations.Mbc1 : Prop :=
  (∀ (s : State) (a : Word) (v : Byte), s.cfg.kind = .mbc1 →
    (a.toNat < 0x2000 →
      s.busWrite a v = { s with cart := { s.cart with ramEn := decide (v.toNat % 16 = 0xA) } }) ∧
    (0x2000 ≤ a.toNat ∧ a.toNat < 0x4000 →
      s.busWrite a v = { s with cart := { s.cart with
        bank1 := BitVec.ofNat 5 (if v.toNat % 32 = 0 then 1 else v.toNat % 32) } }) ∧
    (0x4000 ≤ a.toNat ∧ a.toNat < 0x6000 →
      s.busWrite a v = { s with cart := { s.cart with bank2 := BitVec.ofNat 2 (v.toNat % 4) } }) ∧
    (0x6000 ≤ a.toNat ∧ a.toNat < 0x8000 →
      s.busWrite a v = { s with cart := { s.cart with mbc1Mode := decide (v.toNat % 2 = 1) } }) ∧
    s.cart.currentRomBank s.cfg.kind =
      if s.cart.mbc1Mode then s.cart.bank1.toNat else s.cart.bank2.toNat * 32 + s.cart.bank1.toNat) ∧
  (∀ (s : State) (a : Word) (v : Byte), s.cfg.kind = .mbc1 → 0xA000 ≤ a.toNat → a.toNat < 0xC000 →
    let bank := if s.cart.mbc1Mode then s.cart.bank2.toNat else 0
    let k := (bank * 0x2000 + (a.toNat - 0xA000)) % s.cfg.ramSize
    (s.cart.ramEn = true ∧ s.cfg.ramSize ≠ 0 →
      s.busRead a = s.cram.read k ∧ s.busWrite a v = { s with cram := s.cram.write k v }) ∧
    (s.cart.ramEn = false ∨ s.cfg.ramSize = 0 → s.busRead a = 0xFF ∧ s.busWrite a v = s))

/-- Selecting bank 0 on an MBC1 is selecting bank 1: a write whose low five bits are zero to the ROM-bank
range leaves the machine as a write of 1 does, so every address reads the same (63_cartridge.md R454). -/
def Obligations.Mbc1Quirk : Prop :=
  ∀ (s : State) (a : Word) (v : Byte), s.cfg.kind = .mbc1 → 0x2000 ≤ a.toNat → a.toNat < 0x4000 →
    v.toNat % 32 = 0 →
    s.busWrite a v = s.busWrite a 1 ∧
    (s.cart.mbc1Mode = false → s.cart.bank2 = 0 →
      (s.busWrite a v).busRead 0x4000 = s.cfg.rom.read (1 % s.cfg.nBanks * 0x4000))

/-- The MBC3 control writes, the clock latch and the window (63_cartridge.md R440 to R443, R446; the latch is
the spec's decision D24, log 21). -/
def Obligations.Mbc3 : Prop :=
  ∀ (s : State) (a : Word) (v : Byte), s.cfg.kind = .mbc3 →
    (a.toNat < 0x2000 →
      s.busWrite a v = { s with cart := { s.cart with ramEn := decide (v.toNat % 16 = 0xA) } }) ∧
    (0x2000 ≤ a.toNat ∧ a.toNat < 0x4000 →
      s.busWrite a v = { s with cart := { s.cart with
        romBank := BitVec.ofNat 9 (if v.toNat % 128 = 0 then 1 else v.toNat % 128) } }) ∧
    (0x4000 ≤ a.toNat ∧ a.toNat < 0x6000 →
      s.busWrite a v = { s with cart := { s.cart with ramSel := BitVec.ofNat 4 (v.toNat % 16) } }) ∧
    (0x6000 ≤ a.toNat ∧ a.toNat < 0x8000 →
      s.busWrite a v =
        if s.cfg.hasRtc = true ∧ s.cart.rtcLatchPrev = 0 ∧ v = 1 then
          { s with
            cart := { s.cart with rtc := s.env.rtcAnswer, rtcLatchPrev := v }, env := s.env.tookRtc }
        else { s with cart := { s.cart with rtcLatchPrev := v } }) ∧
    s.cart.currentRomBank s.cfg.kind = s.cart.romBank.toNat ∧
    (0xA000 ≤ a.toNat ∧ a.toNat < 0xC000 →
      let sel := s.cart.ramSel.toNat
      let k := (sel * 0x2000 + (a.toNat - 0xA000)) % s.cfg.ramSize
      (s.cart.ramEn = true ∧ sel ≤ 3 ∧ s.cfg.ramSize ≠ 0 →
        s.busRead a = s.cram.read k ∧ s.busWrite a v = { s with cram := s.cram.write k v }) ∧
      (s.cart.ramEn = true ∧ s.cfg.hasRtc = true ∧ 8 ≤ sel ∧ sel ≤ 0xC →
        s.busRead a = s.cart.rtc.get (sel - 8) ∧
        s.busWrite a v = { s with cart := { s.cart with rtc := s.cart.rtc.set (sel - 8) v } }) ∧
      (s.cart.ramEn = false ∨ (sel ≤ 3 ∧ s.cfg.ramSize = 0) ∨
          (3 < sel ∧ ¬(s.cfg.hasRtc = true ∧ 8 ≤ sel ∧ sel ≤ 0xC)) →
        s.busRead a = 0xFF ∧ s.busWrite a v = s))

/-- The MBC5 control writes and the window: nine bank bits, no remap of bank 0 (63_cartridge.md R448 to
R452; that there is no remap is the spec's decision D23, 90_conflicts.md C6, log 21). -/
def Obligations.Mbc5 : Prop :=
  ∀ (s : State) (a : Word) (v : Byte), s.cfg.kind = .mbc5 →
    (a.toNat < 0x2000 →
      s.busWrite a v = { s with cart := { s.cart with ramEn := decide (v.toNat % 16 = 0xA) } }) ∧
    (0x2000 ≤ a.toNat ∧ a.toNat < 0x3000 →
      s.busWrite a v = { s with cart := { s.cart with
        romBank := BitVec.ofNat 9 (s.cart.romBank.toNat / 256 * 256 + v.toNat) } }) ∧
    (0x3000 ≤ a.toNat ∧ a.toNat < 0x4000 →
      s.busWrite a v = { s with cart := { s.cart with
        romBank := BitVec.ofNat 9 (v.toNat % 2 * 256 + s.cart.romBank.toNat % 256) } }) ∧
    (0x4000 ≤ a.toNat ∧ a.toNat < 0x6000 →
      s.busWrite a v = { s with cart := { s.cart with ramSel := BitVec.ofNat 4 (v.toNat % 16) } }) ∧
    (0x6000 ≤ a.toNat ∧ a.toNat < 0x8000 → s.busWrite a v = s) ∧
    s.cart.currentRomBank s.cfg.kind = s.cart.romBank.toNat ∧
    (0xA000 ≤ a.toNat ∧ a.toNat < 0xC000 →
      let k := (s.cart.ramSel.toNat * 0x2000 + (a.toNat - 0xA000)) % s.cfg.ramSize
      (s.cart.ramEn = true ∧ s.cfg.ramSize ≠ 0 →
        s.busRead a = s.cram.read k ∧ s.busWrite a v = { s with cram := s.cram.write k v }) ∧
      (s.cart.ramEn = false ∨ s.cfg.ramSize = 0 → s.busRead a = 0xFF ∧ s.busWrite a v = s))

/-! ## Timer and display -/

/-- DIV and its prescaler count cycles modulo 0x10000, whatever TAC holds (61_timer.md R361); while TAC bit
2 is 0 neither TIMA nor its prescaler changes and nothing is requested, and no tick changes TMA or TAC
(R364). -/
def Obligations.TimerCounts : Prop :=
  (∀ (t : Timer) (n : Nat), t.divCnt < 256 →
    dividerCount (t.ticks n).1 = (dividerCount t + n) % 0x10000 ∧ (t.ticks n).1.divCnt < 256) ∧
  (∀ (t : Timer) (n : Nat),
    (t.ticks n).1.tma = t.tma ∧ (t.ticks n).1.tac = t.tac ∧
    (t.tac.getLsbD 2 = false →
      (t.ticks n).1.tima = t.tima ∧ (t.ticks n).1.timaCnt = t.timaCnt ∧ (t.ticks n).2 = 0))

/-- The enabled counter just restarted from TMA overflows after exactly `(256 - TMA) * Period(TAC)`
cycles: it is then again just restarted, the request is raised by that tick and by none before it
(61_timer.md R368). -/
def Obligations.CounterOverflows : Prop :=
  ∀ t : Timer, t.tac.getLsbD 2 = true → t.tima = t.tma → t.timaCnt = 0 →
    let n := (256 - t.tma.toNat) * timaPeriod t.tac
    (t.ticks n).1.tima = t.tma ∧ (t.ticks n).1.timaCnt = 0 ∧ (t.ticks n).2 = timerRequest ∧
    ∀ m, m < n → (t.ticks m).2 = 0

/-- The structure of a frame (62_display_timing.md R381): from the start of line 0 the line, the dot and
the mode after `n` cycles, and nothing else changes; a frame is 70224 cycles. -/
def Obligations.FrameStructure : Prop :=
  ∀ (d : Lcd) (n : Nat), d.lcdc.getLsbD 7 = true → d.ly = 0 → d.dot = 0 → d.mode = .searchOam →
    (d.ticks n).1 = { d with
      ly := BitVec.ofNat 8 (n / 456 % 154), dot := n % 456, mode := modeAt (n / 456 % 154) (n % 456) }

/-- The vblank request is raised by the tick that enters line 144 and by no other tick of the frame
(62_display_timing.md R390, R401). -/
def Obligations.VblankOncePerFrame : Prop :=
  ∀ (d : Lcd) (n : Nat), d.lcdc.getLsbD 7 = true → d.ly = 0 → d.dot = 0 → d.mode = .searchOam →
    (((d.ticks n).1.tick.2.getLsbD 0 = true) ↔ n % 70224 = 65663)

/-- While the display is off it does not tick (62_display_timing.md R382); while it is on, the STAT request
is raised exactly at an enabled event: entry into HBlank, VBlank or SearchOAM, or a change of LY to the
value of LYC (R394). -/
def Obligations.DisplayRequests : Prop :=
  (∀ (d : Lcd) (n : Nat), d.lcdc.getLsbD 7 = false → d.ticks n = (d, 0)) ∧
  (∀ d : Lcd, d.Inv → d.lcdc.getLsbD 7 = true →
    let e := d.tick.1
    (d.tick.2.getLsbD 1 = true ↔
      (d.statEn.getLsbD 0 = true ∧ d.mode = .transfer ∧ e.mode = .hblank) ∨
      (d.statEn.getLsbD 1 = true ∧ d.ly ≠ 144 ∧ e.ly = 144) ∨
      (d.statEn.getLsbD 2 = true ∧ d.mode ≠ .searchOam ∧ e.mode = .searchOam) ∨
      (d.statEn.getLsbD 3 = true ∧ d.ly ≠ e.ly ∧ e.ly = d.lyc)))

/-! ## The outer step -/

/-- A step runs the decoded instruction: where no dispatch and no idle step comes first, the step is `exec`
of the instruction that the bytes at PC decode to, PC moved past them, a wake and a pending EI carried
out, and then the devices' phases (`finishStep`). Second, wherever PC points, a port of an outside device
included, and whatever the latch is: the step is `exec` of the instruction that the bytes fetched decode to. -/
def Obligations.StepRunsDecoded : Prop :=
  (∀ (s : State) (i : Instr) (rest : List Byte),
    s.powered = true → s.cfg.accepted = true → s.env.powerOffNow = false → s.cpu.haltbugLatch = false →
    ¬(s.cpu.ime = true ∧ s.pending ≠ 0) → (s.cpu.halted = true → s.pending ≠ 0) →
    decode [s.busRead s.cpu.pc, s.busRead (s.cpu.pc + 1), s.busRead (s.cpu.pc + 2)] = .ok (i, rest) →
    (∀ k, k < (encode i).length → isExternal (s.cpu.pc + BitVec.ofNat 16 k) = false) →
    step s = finishStep (exec i { s with
      cpu := { s.cpu with
        pc := s.cpu.pc + BitVec.ofNat 16 (encode i).length
        halted := false
        ime := s.cpu.ime || s.cpu.eiPending
        eiPending := false }
      opAddr := s.cpu.pc })) ∧
  (∀ (s : State) (i : Instr),
    s.powered = true → s.cfg.accepted = true → s.env.powerOffNow = false →
    ¬(s.cpu.ime = true ∧ s.pending ≠ 0) → (s.cpu.halted = true → s.pending ≠ 0) →
    let u : State := { s with cpu := { s.cpu with
      halted := false, ime := s.cpu.ime || s.cpu.eiPending, eiPending := false } }
    decode u.fetchBytes.1 = .ok (i, []) → step s = finishStep (exec i u.fetchBytes.2))

/-- The step after a HALT that set `haltbug_latch`: the byte at PC is read twice, once as the opcode and
again as the byte that follows it, and PC moves by one byte less (46_misc.md R301). -/
def Obligations.HaltBugStep : Prop :=
  ∀ (s : State) (i : Instr) (rest : List Byte),
    s.powered = true → s.cfg.accepted = true → s.env.powerOffNow = false → s.cpu.haltbugLatch = true →
    s.cpu.ime = false → s.cpu.halted = false →
    decode [s.busRead s.cpu.pc, s.busRead s.cpu.pc, s.busRead (s.cpu.pc + 1)] = .ok (i, rest) →
    isExternal s.cpu.pc = false → isExternal (s.cpu.pc + 1) = false →
    step s = finishStep (exec i { s with
      cpu := { s.cpu with
        pc := s.cpu.pc + BitVec.ofNat 16 ((encode i).length - 1)
        haltbugLatch := false
        ime := s.cpu.eiPending
        eiPending := false }
      opAddr := s.cpu.pc })

/-- Interrupt dispatch (60_exceptions.md R326): the lowest-numbered enabled request is taken before any
byte is fetched; PC alone is saved, high byte first; IME, `ei_pending` and the one IF bit are cleared; the
cost is 20 cycles and the CPU is awake. -/
def Obligations.InterruptDispatch : Prop :=
  ∀ (s : State) (n : Nat),
    s.powered = true → s.cfg.accepted = true → s.env.powerOffNow = false → s.cpu.ime = true →
    (s.irq.enable.extractLsb' 0 5 &&& s.irq.flags).getLsbD n = true →
    (∀ m, m < n → (s.irq.enable.extractLsb' 0 5 &&& s.irq.flags).getLsbD m = false) →
    let u := { s with irq := { s.irq with flags := s.irq.flags &&& ~~~(1#5 <<< n) } }
    let w := (u.busWrite (s.cpu.sp - 1) (hiByte s.cpu.pc)).busWrite (s.cpu.sp - 2) (loByte s.cpu.pc)
    step s = .next (State.advance { w with
      cpu := { s.cpu with
        pc := BitVec.ofNat 16 (0x40 + 8 * n)
        sp := s.cpu.sp - 2
        ime := false
        eiPending := false
        halted := false }
      cost := 20 })

/-- Halted with no enabled request, a step is idle: nothing is fetched, PC stays, and the devices advance by
4 cycles; with a request pending and IME 0 it wakes without dispatching and executes the next instruction,
IF left as it is (60_exceptions.md R328; a dispatch from the halted state is in `InterruptDispatch`). -/
def Obligations.HaltedSteps : Prop :=
  (∀ s : State, s.powered = true → s.cfg.accepted = true → s.env.powerOffNow = false →
    s.cpu.halted = true → s.pending = 0 → step s = .next (State.advance { s with cost := 4 })) ∧
  (∀ s : State, s.powered = true → s.cfg.accepted = true → s.env.powerOffNow = false →
    s.cpu.halted = true → s.cpu.ime = false → s.pending ≠ 0 →
    step s = step { s with cpu := { s.cpu with halted := false } } ∧
    step s = finishStep (State.executeInstruction { s with
      cpu := { s.cpu with halted := false, ime := s.cpu.eiPending, eiPending := false } }))

/-- Phases 2 to 4 of a step that is not the power-off (60_exceptions.md R330): the display and the timer
advance by the cost the CPU phase reported, which is at most 24 and a multiple of 4, and IF gains their
requests and the external ones. Second, the external requests are any subset of bits 3 and 4, those of the
input listed for this step where one is, and no device inside the block raises either (R323; log 1). -/
def Obligations.DevicesAdvance : Prop :=
  (∀ s t : State, s.env.powerOffNow = false → step s = .next t → ∃ u : State,
    State.cpuPhase s = .next u ∧ 4 ≤ u.cost ∧ u.cost ≤ 24 ∧ u.cost % 4 = 0 ∧
    t = { u with
      lcd := (u.lcd.ticks u.cost).1
      timer := (u.timer.ticks u.cost).1
      irq := { u.irq with flags :=
        u.irq.flags ||| (u.lcd.ticks u.cost).2 ||| (u.timer.ticks u.cost).2 ||| s.env.extIrq }
      env := { u.env with steps := s.env.steps.tail, stepCount := s.env.stepCount + 1 } }) ∧
  (∀ e : Env, e.extIrq.extractLsb' 0 3 = 0 ∧
    ∀ i rest, e.steps = i :: rest → e.powerOffNow = i.powerOff ∧
      e.extIrq.getLsbD 3 = i.serial ∧ e.extIrq.getLsbD 4 = i.joypad) ∧
  (∀ (d : Lcd) (t : Timer) (n : Nat), ((d.ticks n).2 ||| (t.ticks n).2).extractLsb' 3 2 = 0)

/-- The one synchronous exception (60_exceptions.md R335): a step faults only by fetching one of the eleven
bytes as an opcode, and the fault carries that byte and its address. -/
def Obligations.OnlyIllegalOpcodeFaults : Prop :=
  ∀ (s : State) (r : Fault), step s = .fault r →
    r = .illegalOpcode s.cpu.pc (s.busRead s.cpu.pc) ∧ s.busRead s.cpu.pc ∈ illegalBytes

/-- A step of a machine that is on, with a well-formed cartridge, is never refused; one that is off, or whose
cartridge image is malformed, always is; `powered` is cleared by the environment alone, and no step changes
a parameter (10_state.md R33, R38; 63_cartridge.md R421). The step in which it is cleared changes nothing
else but that the environment's input of that step is used up (log 10). -/
def Obligations.PowerAndRefusals : Prop :=
  (∀ s : State,
    (s.powered = true → s.cfg.accepted = true → ∀ r, step s ≠ .refused r) ∧
    (s.powered = false → step s = .refused .poweredOff) ∧
    (s.powered = true → s.cfg.accepted = false → step s = .refused .malformedCartridge)) ∧
  (∀ s t : State, step s = .next t → t.cfg = s.cfg ∧ t.powered = !s.env.powerOffNow) ∧
  (∀ s : State, s.powered = true → s.cfg.accepted = true → s.env.powerOffNow = true →
    step s = .next { s with
      powered := false
      env := { s.env with steps := s.env.steps.tail, stepCount := s.env.stepCount + 1 } })

/-! ## Invariant and reset -/

/-- Every step keeps the invariant (10_state.md R43, and the canonical form of every memory). -/
def Obligations.StepKeepsInv : Prop :=
  ∀ s t : State, s.Inv → step s = .next t → t.Inv

/-- The state after reset meets the invariant. -/
def Obligations.ResetMeetsInv : Prop := State.reset.Inv

/-- With the spec's reset record, the registers (10_state.md R40, as `RESET_REGS`, log 7) and every other piece
of state (R41) right after a power-on. For every record, cartridge, memory contents and environment, each part
of the state is the parameter's (R42, 70_reset_and_hazards.md R471), the clock copy being `RtcNow` taken once
where the cartridge has the clock (log 3). `State.reset` is the power-on with the spec's record and the
model's own choices of the other parameters (logs 1 to 6). -/
def Obligations.ResetValues : Prop :=
  (∀ p : PowerOn, p.record = resetRecord → let s := State.powerOn p
    s.cpu.a = 0x01 ∧ s.fByte = 0xB0 ∧ s.cpu.b = 0x00 ∧ s.cpu.c = 0x13 ∧ s.cpu.d = 0x00 ∧ s.cpu.e = 0xD8 ∧
    s.cpu.h = 0x01 ∧ s.cpu.l = 0x4D ∧ s.cpu.sp = 0xFFFE ∧ s.cpu.pc = 0x0100 ∧
    s.cpu.ime = false ∧ s.cpu.eiPending = false ∧ s.cpu.halted = false ∧ s.cpu.haltbugLatch = false ∧
    s.powered = true ∧ s.irq = { flags := 0, enable := 0 } ∧
    s.timer = { div := 0, divCnt := 0, tima := 0, tma := 0, tac := 0, timaCnt := 0 } ∧
    s.lcd.lcdc = 0 ∧ s.lcd.statEn = 0 ∧ s.lcd.mode = .hblank ∧ s.lcd.ly = 0 ∧ s.lcd.dot = 0 ∧
    s.lcd.lyc = 0 ∧ s.lcd.scy = 0 ∧ s.lcd.scx = 0 ∧ s.lcd.wy = 0 ∧ s.lcd.wx = 0 ∧ s.lcd.dma = 0 ∧
    s.lcd.bgp = 0 ∧ s.lcd.obp0 = 0 ∧ s.lcd.obp1 = 0 ∧
    s.cart.ramEn = false ∧ s.cart.bank1 = 1 ∧ s.cart.bank2 = 0 ∧ s.cart.mbc1Mode = false ∧
    s.cart.romBank = 1 ∧ s.cart.ramSel = 0 ∧ s.cart.rtcLatchPrev = 0xFF) ∧
  (∀ p : PowerOn, let s := State.powerOn p
    s.cfg = p.cfg ∧ s.cpu = p.record.cpu ∧ s.powered = p.record.powered ∧ s.irq = p.record.irq ∧
    s.timer = p.record.timer ∧ s.lcd = p.record.lcd ∧ s.cart = { p.record.cart with rtc := s.cart.rtc } ∧
    (p.cfg.hasRtc = true → s.cart.rtc = p.env.rtcAnswer ∧ s.env = p.env.tookRtc) ∧
    (p.cfg.hasRtc = false → s.cart.rtc = p.record.cart.rtc ∧ s.env = p.env) ∧
    s.cram = p.cram ∧ s.vram = p.vram ∧ s.wram = p.wram ∧ s.oam = p.oam ∧ s.hram = p.hram) ∧
  State.reset = State.powerOn {
    cfg := { romLength := 0x8000, rom := [], ramSize := 0, haltBug := false }
    record := resetRecord
    cram := []
    vram := []
    wram := []
    oam := []
    hram := []
    env := State.reset.env }
end

