-- ==== Sys2Proof/Laws/Bits.lean ====
section
/-! SUPPORT. Byte order and the flag byte: taking a word apart and putting it together again. -/

namespace Sys2Proof

theorem join_toNat (h l : Byte) : (join h l).toNat = h.toNat * 256 + l.toNat := by
  simp only [join, BitVec.toNat_append]
  rw [Nat.shiftLeft_eq, Nat.mul_comm, ← Nat.two_pow_add_eq_or_of_lt l.isLt, Nat.mul_comm]

theorem hiByte_toNat (w : Word) : (hiByte w).toNat = w.toNat / 256 := by
  have := w.isLt
  simp [hiByte, BitVec.extractLsb'_toNat, Nat.shiftRight_eq_div_pow]
  omega

theorem loByte_toNat (w : Word) : (loByte w).toNat = w.toNat % 256 := by
  simp [loByte, BitVec.extractLsb'_toNat]

@[simp] theorem join_hiByte_loByte (w : Word) : join (hiByte w) (loByte w) = w := by
  apply BitVec.eq_of_toNat_eq
  rw [join_toNat, hiByte_toNat, loByte_toNat]
  omega

@[simp] theorem hiByte_join (h l : Byte) : hiByte (join h l) = h := by
  have := l.isLt
  apply BitVec.eq_of_toNat_eq
  rw [hiByte_toNat, join_toNat]
  omega

@[simp] theorem loByte_join (h l : Byte) : loByte (join h l) = l := by
  have := l.isLt
  apply BitVec.eq_of_toNat_eq
  rw [loByte_toNat, join_toNat]
  omega

theorem highPage_eq : ∀ n : Byte, highPage n = join 0xFF n := by decide

theorem sext16_eq : ∀ e : Byte, sext16 e = BitVec.ofInt 16 e.toInt := by decide

namespace Machine

theorem Flags.ofByte_toByte (f : Flags) : Flags.ofByte f.toByte = f := by
  obtain ⟨z, n, h, c⟩ := f
  cases z <;> cases n <;> cases h <;> cases c <;> rfl

end Machine

end Sys2Proof
end

