-- ==== Sys2Proof/Laws/Memory.lean ====
section
/-! SUPPORT. The laws of a sparse byte array: read after write, and the canonical form kept. -/

namespace Sys2Proof

theorem Memory.read_erase_same (m : Memory) (k : Nat) : (m.erase k).read k = Memory.unlisted := by
  induction m with
  | nil => rfl
  | cons c rest ih =>
    obtain ⟨a, v⟩ := c
    by_cases h : a = k <;> simp [Memory.erase, Memory.read, h, ih]

theorem Memory.read_erase_ne (m : Memory) {k j : Nat} (h : j ≠ k) : (m.erase k).read j = m.read j := by
  induction m with
  | nil => rfl
  | cons c rest ih =>
    obtain ⟨a, v⟩ := c
    by_cases ha : a = k
    · subst ha; simp [Memory.erase, Memory.read, ih, Ne.symm h]
    · simp [Memory.erase, Memory.read, ha, ih]

theorem Memory.read_insert_same (m : Memory) (k : Nat) (v : Byte) : (m.insert k v).read k = v := by
  induction m with
  | nil => simp [Memory.insert, Memory.read]
  | cons c rest ih =>
    obtain ⟨a, w⟩ := c
    by_cases h : k < a
    · simp [Memory.insert, Memory.read, h]
    · by_cases h2 : k = a
      · simp [Memory.insert, Memory.read, h2]
      · simp [Memory.insert, Memory.read, h, h2, Ne.symm h2, ih]

theorem Memory.read_insert_ne (m : Memory) {k j : Nat} (v : Byte) (h : j ≠ k) :
    (m.insert k v).read j = m.read j := by
  induction m with
  | nil => simp [Memory.insert, Memory.read, Ne.symm h]
  | cons c rest ih =>
    obtain ⟨a, w⟩ := c
    by_cases h1 : k < a
    · simp [Memory.insert, Memory.read, h1, Ne.symm h]
    · by_cases h2 : k = a
      · subst h2; simp [Memory.insert, Memory.read, Ne.symm h]
      · simp [Memory.insert, Memory.read, h1, h2, ih]

/-- A read after a write of the same offset gives the byte written. -/
@[simp] theorem Memory.read_write_same (m : Memory) (k : Nat) (v : Byte) : (m.write k v).read k = v := by
  unfold Memory.write
  split
  · next h => rw [Memory.read_erase_same, h]
  · exact Memory.read_insert_same m k v

/-- A write leaves every other offset alone. -/
theorem Memory.read_write_ne (m : Memory) {k j : Nat} (v : Byte) (h : j ≠ k) :
    (m.write k v).read j = m.read j := by
  unfold Memory.write
  split
  · exact Memory.read_erase_ne m h
  · exact Memory.read_insert_ne m v h

theorem Memory.above_mono {m : Memory} {a b : Nat} (h : a ≤ b) (hm : m.above b = true) :
    m.above a = true := by
  induction m with
  | nil => rfl
  | cons c rest ih =>
    obtain ⟨k, v⟩ := c
    simp only [Memory.above, Bool.and_eq_true, decide_eq_true_eq] at hm ⊢
    exact ⟨by omega, ih hm.2⟩

theorem Memory.above_erase {m : Memory} {a k : Nat} (hm : m.above a = true) :
    (m.erase k).above a = true := by
  induction m with
  | nil => rfl
  | cons c rest ih =>
    obtain ⟨b, v⟩ := c
    simp only [Memory.above, Bool.and_eq_true, decide_eq_true_eq] at hm
    by_cases h : b = k <;> simp [Memory.erase, Memory.above, h, ih hm.2]
    · omega

theorem Memory.above_insert {m : Memory} {a k : Nat} {v : Byte} (hk : a < k) (hm : m.above a = true) :
    (m.insert k v).above a = true := by
  induction m with
  | nil => simp [Memory.insert, Memory.above, hk]
  | cons c rest ih =>
    obtain ⟨b, w⟩ := c
    have hm' := hm
    simp only [Memory.above, Bool.and_eq_true, decide_eq_true_eq] at hm
    by_cases h1 : k < b
    · simp only [Memory.insert, h1, if_true, Memory.above, Bool.and_eq_true, decide_eq_true_eq]
      exact ⟨hk, hm.1, hm.2⟩
    · by_cases h2 : k = b
      · simp only [Memory.insert, h2, Nat.lt_irrefl, if_false, if_true, Memory.above, Bool.and_eq_true,
          decide_eq_true_eq]
        exact ⟨hm.1, hm.2⟩
      · simp only [Memory.insert, h1, h2, if_false, Memory.above, Bool.and_eq_true, decide_eq_true_eq]
        exact ⟨hm.1, ih hm.2⟩

theorem Memory.wf_erase {m : Memory} {k : Nat} (hm : m.wf = true) : (m.erase k).wf = true := by
  induction m with
  | nil => rfl
  | cons c rest ih =>
    obtain ⟨a, v⟩ := c
    simp only [Memory.wf, Bool.and_eq_true] at hm
    by_cases h : a = k
    · simp [Memory.erase, h, ih hm.2]
    · simp only [Memory.erase, h, if_false, Memory.wf, Bool.and_eq_true]
      exact ⟨⟨hm.1.1, Memory.above_erase hm.1.2⟩, ih hm.2⟩

theorem Memory.wf_insert {m : Memory} {k : Nat} {v : Byte} (hv : v ≠ Memory.unlisted) (hm : m.wf = true) :
    (m.insert k v).wf = true := by
  induction m with
  | nil => simp [Memory.insert, Memory.wf, Memory.above, hv]
  | cons c rest ih =>
    obtain ⟨a, w⟩ := c
    have hm' := hm
    simp only [Memory.wf, Bool.and_eq_true] at hm
    by_cases h1 : k < a
    · simp only [Memory.insert, h1, if_true, Memory.wf, Memory.above, Bool.and_eq_true, decide_eq_true_eq,
        bne_iff_ne, ne_eq]
      refine ⟨⟨hv, trivial, Memory.above_mono (Nat.le_of_lt h1) hm.1.2⟩, ⟨by simpa using hm.1.1, hm.1.2⟩,
        hm.2⟩
    · by_cases h2 : k = a
      · subst h2
        simp only [Memory.insert, Nat.lt_irrefl, if_false, if_true, Memory.wf, Bool.and_eq_true]
        exact ⟨⟨by simpa using hv, hm.1.2⟩, hm.2⟩
      · simp only [Memory.insert, h1, h2, if_false, Memory.wf, Bool.and_eq_true]
        exact ⟨⟨hm.1.1, Memory.above_insert (by omega) hm.1.2⟩, ih hm.2⟩

/-- A write keeps the canonical form. -/
theorem Memory.wf_write {m : Memory} (k : Nat) (v : Byte) (hm : m.wf = true) : (m.write k v).wf = true := by
  unfold Memory.write
  split
  · exact Memory.wf_erase hm
  · next h => exact Memory.wf_insert h hm

theorem Memory.below_erase {m : Memory} {n k : Nat} (hm : m.below n = true) : (m.erase k).below n = true := by
  induction m with
  | nil => rfl
  | cons c rest ih =>
    obtain ⟨a, v⟩ := c
    simp only [Memory.below, Bool.and_eq_true, decide_eq_true_eq] at hm
    by_cases h : a = k
    · simp [Memory.erase, h, ih hm.2]
    · simp [Memory.erase, h, Memory.below, ih hm.2, hm.1]

theorem Memory.below_insert {m : Memory} {n k : Nat} {v : Byte} (hk : k < n) (hm : m.below n = true) :
    (m.insert k v).below n = true := by
  induction m with
  | nil => simp [Memory.insert, Memory.below, hk]
  | cons c rest ih =>
    obtain ⟨a, w⟩ := c
    have hm' := hm
    simp only [Memory.below, Bool.and_eq_true, decide_eq_true_eq] at hm
    by_cases h1 : k < a
    · simp [Memory.insert, h1, Memory.below, hk, hm.1, hm.2]
    · by_cases h2 : k = a
      · subst h2; simp [Memory.insert, Memory.below, hk, hm.2]
      · simp [Memory.insert, h1, h2, Memory.below, hm.1, ih hm.2]

/-- A write of an offset of the array stays within it. -/
theorem Memory.below_write {m : Memory} {n k : Nat} (v : Byte) (hk : k < n) (hm : m.below n = true) :
    (m.write k v).below n = true := by
  unfold Memory.write
  split
  · exact Memory.below_erase hm
  · exact Memory.below_insert hk hm

theorem Memory.read_of_above {m : Memory} {a k : Nat} (hm : m.above a = true) (h : k ≤ a) :
    m.read k = Memory.unlisted := by
  induction m with
  | nil => rfl
  | cons c rest ih =>
    obtain ⟨b, v⟩ := c
    simp only [Memory.above, Bool.and_eq_true, decide_eq_true_eq] at hm
    have : b ≠ k := by omega
    simp [Memory.read, this, ih hm.2]

/-- Two canonical arrays with the same bytes are the same list. -/
theorem Memory.ext_of_wf {m n : Memory} (hm : m.wf = true) (hn : n.wf = true)
    (h : ∀ k, m.read k = n.read k) : m = n := by
  induction m generalizing n with
  | nil =>
    cases n with
    | nil => rfl
    | cons c rest =>
      obtain ⟨a, v⟩ := c
      simp only [Memory.wf, Bool.and_eq_true, bne_iff_ne, ne_eq] at hn
      exact absurd (by simpa [Memory.read] using (h a).symm) hn.1.1
  | cons c rest ih =>
    obtain ⟨a, v⟩ := c
    have hm' := hm
    simp only [Memory.wf, Bool.and_eq_true, bne_iff_ne, ne_eq] at hm
    cases n with
    | nil => exact absurd (by simpa [Memory.read] using h a) hm.1.1
    | cons d rest' =>
      obtain ⟨b, w⟩ := d
      simp only [Memory.wf, Bool.and_eq_true, bne_iff_ne, ne_eq] at hn
      have hab : a = b := by
        rcases Nat.lt_trichotomy a b with hlt | heq | hgt
        · have h1 := h a
          have : b ≠ a := by omega
          simp [Memory.read, this] at h1
          exact absurd (h1.trans (Memory.read_of_above hn.1.2 (by omega))) hm.1.1
        · exact heq
        · have h1 := h b
          have : a ≠ b := by omega
          simp [Memory.read, this] at h1
          exact absurd (h1.symm.trans (Memory.read_of_above hm.1.2 (by omega))) hn.1.1
      subst hab
      have hvw : v = w := by simpa [Memory.read] using h a
      subst hvw
      congr 1
      refine ih hm.2 hn.2 fun k => ?_
      by_cases hk : a = k
      · subst hk
        rw [Memory.read_of_above hm.1.2 (Nat.le_refl _), Memory.read_of_above hn.1.2 (Nat.le_refl _)]
      · simpa [Memory.read, hk] using h k

end Sys2Proof
end

