-- ==== Sys2Proof/Laws/State.lean ====
section
/-! SUPPORT. One lemma per field per update of State, true by `rfl`, for `simp`. -/

namespace Sys2Proof.Machine

variable (s : State)

/-! `setPc` -/

@[simp] theorem State.setPc_cpu (v : Word) : (s.setPc v).cpu = { s.cpu with pc := v } := rfl
@[simp] theorem State.setPc_cfg (v : Word) : (s.setPc v).cfg = s.cfg := rfl
@[simp] theorem State.setPc_powered (v : Word) : (s.setPc v).powered = s.powered := rfl
@[simp] theorem State.setPc_irq (v : Word) : (s.setPc v).irq = s.irq := rfl
@[simp] theorem State.setPc_timer (v : Word) : (s.setPc v).timer = s.timer := rfl
@[simp] theorem State.setPc_lcd (v : Word) : (s.setPc v).lcd = s.lcd := rfl
@[simp] theorem State.setPc_cart (v : Word) : (s.setPc v).cart = s.cart := rfl
@[simp] theorem State.setPc_cram (v : Word) : (s.setPc v).cram = s.cram := rfl
@[simp] theorem State.setPc_vram (v : Word) : (s.setPc v).vram = s.vram := rfl
@[simp] theorem State.setPc_wram (v : Word) : (s.setPc v).wram = s.wram := rfl
@[simp] theorem State.setPc_oam (v : Word) : (s.setPc v).oam = s.oam := rfl
@[simp] theorem State.setPc_hram (v : Word) : (s.setPc v).hram = s.hram := rfl
@[simp] theorem State.setPc_env (v : Word) : (s.setPc v).env = s.env := rfl
@[simp] theorem State.setPc_cost (v : Word) : (s.setPc v).cost = s.cost := rfl
@[simp] theorem State.setPc_opAddr (v : Word) : (s.setPc v).opAddr = s.opAddr := rfl

/-! `setSp` -/

@[simp] theorem State.setSp_cpu (v : Word) : (s.setSp v).cpu = { s.cpu with sp := v } := rfl
@[simp] theorem State.setSp_cfg (v : Word) : (s.setSp v).cfg = s.cfg := rfl
@[simp] theorem State.setSp_powered (v : Word) : (s.setSp v).powered = s.powered := rfl
@[simp] theorem State.setSp_irq (v : Word) : (s.setSp v).irq = s.irq := rfl
@[simp] theorem State.setSp_timer (v : Word) : (s.setSp v).timer = s.timer := rfl
@[simp] theorem State.setSp_lcd (v : Word) : (s.setSp v).lcd = s.lcd := rfl
@[simp] theorem State.setSp_cart (v : Word) : (s.setSp v).cart = s.cart := rfl
@[simp] theorem State.setSp_cram (v : Word) : (s.setSp v).cram = s.cram := rfl
@[simp] theorem State.setSp_vram (v : Word) : (s.setSp v).vram = s.vram := rfl
@[simp] theorem State.setSp_wram (v : Word) : (s.setSp v).wram = s.wram := rfl
@[simp] theorem State.setSp_oam (v : Word) : (s.setSp v).oam = s.oam := rfl
@[simp] theorem State.setSp_hram (v : Word) : (s.setSp v).hram = s.hram := rfl
@[simp] theorem State.setSp_env (v : Word) : (s.setSp v).env = s.env := rfl
@[simp] theorem State.setSp_cost (v : Word) : (s.setSp v).cost = s.cost := rfl
@[simp] theorem State.setSp_opAddr (v : Word) : (s.setSp v).opAddr = s.opAddr := rfl

/-! `setIme` -/

@[simp] theorem State.setIme_cpu (i e : Bool) : (s.setIme i e).cpu = { s.cpu with ime := i, eiPending := e } := rfl
@[simp] theorem State.setIme_cfg (i e : Bool) : (s.setIme i e).cfg = s.cfg := rfl
@[simp] theorem State.setIme_powered (i e : Bool) : (s.setIme i e).powered = s.powered := rfl
@[simp] theorem State.setIme_irq (i e : Bool) : (s.setIme i e).irq = s.irq := rfl
@[simp] theorem State.setIme_timer (i e : Bool) : (s.setIme i e).timer = s.timer := rfl
@[simp] theorem State.setIme_lcd (i e : Bool) : (s.setIme i e).lcd = s.lcd := rfl
@[simp] theorem State.setIme_cart (i e : Bool) : (s.setIme i e).cart = s.cart := rfl
@[simp] theorem State.setIme_cram (i e : Bool) : (s.setIme i e).cram = s.cram := rfl
@[simp] theorem State.setIme_vram (i e : Bool) : (s.setIme i e).vram = s.vram := rfl
@[simp] theorem State.setIme_wram (i e : Bool) : (s.setIme i e).wram = s.wram := rfl
@[simp] theorem State.setIme_oam (i e : Bool) : (s.setIme i e).oam = s.oam := rfl
@[simp] theorem State.setIme_hram (i e : Bool) : (s.setIme i e).hram = s.hram := rfl
@[simp] theorem State.setIme_env (i e : Bool) : (s.setIme i e).env = s.env := rfl
@[simp] theorem State.setIme_cost (i e : Bool) : (s.setIme i e).cost = s.cost := rfl
@[simp] theorem State.setIme_opAddr (i e : Bool) : (s.setIme i e).opAddr = s.opAddr := rfl

/-! `setHalted` -/

@[simp] theorem State.setHalted_cpu (v : Bool) : (s.setHalted v).cpu = { s.cpu with halted := v } := rfl
@[simp] theorem State.setHalted_cfg (v : Bool) : (s.setHalted v).cfg = s.cfg := rfl
@[simp] theorem State.setHalted_powered (v : Bool) : (s.setHalted v).powered = s.powered := rfl
@[simp] theorem State.setHalted_irq (v : Bool) : (s.setHalted v).irq = s.irq := rfl
@[simp] theorem State.setHalted_timer (v : Bool) : (s.setHalted v).timer = s.timer := rfl
@[simp] theorem State.setHalted_lcd (v : Bool) : (s.setHalted v).lcd = s.lcd := rfl
@[simp] theorem State.setHalted_cart (v : Bool) : (s.setHalted v).cart = s.cart := rfl
@[simp] theorem State.setHalted_cram (v : Bool) : (s.setHalted v).cram = s.cram := rfl
@[simp] theorem State.setHalted_vram (v : Bool) : (s.setHalted v).vram = s.vram := rfl
@[simp] theorem State.setHalted_wram (v : Bool) : (s.setHalted v).wram = s.wram := rfl
@[simp] theorem State.setHalted_oam (v : Bool) : (s.setHalted v).oam = s.oam := rfl
@[simp] theorem State.setHalted_hram (v : Bool) : (s.setHalted v).hram = s.hram := rfl
@[simp] theorem State.setHalted_env (v : Bool) : (s.setHalted v).env = s.env := rfl
@[simp] theorem State.setHalted_cost (v : Bool) : (s.setHalted v).cost = s.cost := rfl
@[simp] theorem State.setHalted_opAddr (v : Bool) : (s.setHalted v).opAddr = s.opAddr := rfl

/-! `setLatch` -/

@[simp] theorem State.setLatch_cpu (v : Bool) : (s.setLatch v).cpu = { s.cpu with haltbugLatch := v } := rfl
@[simp] theorem State.setLatch_cfg (v : Bool) : (s.setLatch v).cfg = s.cfg := rfl
@[simp] theorem State.setLatch_powered (v : Bool) : (s.setLatch v).powered = s.powered := rfl
@[simp] theorem State.setLatch_irq (v : Bool) : (s.setLatch v).irq = s.irq := rfl
@[simp] theorem State.setLatch_timer (v : Bool) : (s.setLatch v).timer = s.timer := rfl
@[simp] theorem State.setLatch_lcd (v : Bool) : (s.setLatch v).lcd = s.lcd := rfl
@[simp] theorem State.setLatch_cart (v : Bool) : (s.setLatch v).cart = s.cart := rfl
@[simp] theorem State.setLatch_cram (v : Bool) : (s.setLatch v).cram = s.cram := rfl
@[simp] theorem State.setLatch_vram (v : Bool) : (s.setLatch v).vram = s.vram := rfl
@[simp] theorem State.setLatch_wram (v : Bool) : (s.setLatch v).wram = s.wram := rfl
@[simp] theorem State.setLatch_oam (v : Bool) : (s.setLatch v).oam = s.oam := rfl
@[simp] theorem State.setLatch_hram (v : Bool) : (s.setLatch v).hram = s.hram := rfl
@[simp] theorem State.setLatch_env (v : Bool) : (s.setLatch v).env = s.env := rfl
@[simp] theorem State.setLatch_cost (v : Bool) : (s.setLatch v).cost = s.cost := rfl
@[simp] theorem State.setLatch_opAddr (v : Bool) : (s.setLatch v).opAddr = s.opAddr := rfl

/-! `setFlags` -/

@[simp] theorem State.setFlags_cpu (f : Flags) : (s.setFlags f).cpu = { s.cpu with f := f } := rfl
@[simp] theorem State.setFlags_cfg (f : Flags) : (s.setFlags f).cfg = s.cfg := rfl
@[simp] theorem State.setFlags_powered (f : Flags) : (s.setFlags f).powered = s.powered := rfl
@[simp] theorem State.setFlags_irq (f : Flags) : (s.setFlags f).irq = s.irq := rfl
@[simp] theorem State.setFlags_timer (f : Flags) : (s.setFlags f).timer = s.timer := rfl
@[simp] theorem State.setFlags_lcd (f : Flags) : (s.setFlags f).lcd = s.lcd := rfl
@[simp] theorem State.setFlags_cart (f : Flags) : (s.setFlags f).cart = s.cart := rfl
@[simp] theorem State.setFlags_cram (f : Flags) : (s.setFlags f).cram = s.cram := rfl
@[simp] theorem State.setFlags_vram (f : Flags) : (s.setFlags f).vram = s.vram := rfl
@[simp] theorem State.setFlags_wram (f : Flags) : (s.setFlags f).wram = s.wram := rfl
@[simp] theorem State.setFlags_oam (f : Flags) : (s.setFlags f).oam = s.oam := rfl
@[simp] theorem State.setFlags_hram (f : Flags) : (s.setFlags f).hram = s.hram := rfl
@[simp] theorem State.setFlags_env (f : Flags) : (s.setFlags f).env = s.env := rfl
@[simp] theorem State.setFlags_cost (f : Flags) : (s.setFlags f).cost = s.cost := rfl
@[simp] theorem State.setFlags_opAddr (f : Flags) : (s.setFlags f).opAddr = s.opAddr := rfl

/-! `setAF` -/

@[simp] theorem State.setAF_cpu (a : Byte) (f : Flags) : (s.setAF a f).cpu = { s.cpu with a := a, f := f } := rfl
@[simp] theorem State.setAF_cfg (a : Byte) (f : Flags) : (s.setAF a f).cfg = s.cfg := rfl
@[simp] theorem State.setAF_powered (a : Byte) (f : Flags) : (s.setAF a f).powered = s.powered := rfl
@[simp] theorem State.setAF_irq (a : Byte) (f : Flags) : (s.setAF a f).irq = s.irq := rfl
@[simp] theorem State.setAF_timer (a : Byte) (f : Flags) : (s.setAF a f).timer = s.timer := rfl
@[simp] theorem State.setAF_lcd (a : Byte) (f : Flags) : (s.setAF a f).lcd = s.lcd := rfl
@[simp] theorem State.setAF_cart (a : Byte) (f : Flags) : (s.setAF a f).cart = s.cart := rfl
@[simp] theorem State.setAF_cram (a : Byte) (f : Flags) : (s.setAF a f).cram = s.cram := rfl
@[simp] theorem State.setAF_vram (a : Byte) (f : Flags) : (s.setAF a f).vram = s.vram := rfl
@[simp] theorem State.setAF_wram (a : Byte) (f : Flags) : (s.setAF a f).wram = s.wram := rfl
@[simp] theorem State.setAF_oam (a : Byte) (f : Flags) : (s.setAF a f).oam = s.oam := rfl
@[simp] theorem State.setAF_hram (a : Byte) (f : Flags) : (s.setAF a f).hram = s.hram := rfl
@[simp] theorem State.setAF_env (a : Byte) (f : Flags) : (s.setAF a f).env = s.env := rfl
@[simp] theorem State.setAF_cost (a : Byte) (f : Flags) : (s.setAF a f).cost = s.cost := rfl
@[simp] theorem State.setAF_opAddr (a : Byte) (f : Flags) : (s.setAF a f).opAddr = s.opAddr := rfl

/-! `setBc` -/

@[simp] theorem State.setBc_cpu (v : Word) : (s.setBc v).cpu = { s.cpu with b := hiByte v, c := loByte v } := rfl
@[simp] theorem State.setBc_cfg (v : Word) : (s.setBc v).cfg = s.cfg := rfl
@[simp] theorem State.setBc_powered (v : Word) : (s.setBc v).powered = s.powered := rfl
@[simp] theorem State.setBc_irq (v : Word) : (s.setBc v).irq = s.irq := rfl
@[simp] theorem State.setBc_timer (v : Word) : (s.setBc v).timer = s.timer := rfl
@[simp] theorem State.setBc_lcd (v : Word) : (s.setBc v).lcd = s.lcd := rfl
@[simp] theorem State.setBc_cart (v : Word) : (s.setBc v).cart = s.cart := rfl
@[simp] theorem State.setBc_cram (v : Word) : (s.setBc v).cram = s.cram := rfl
@[simp] theorem State.setBc_vram (v : Word) : (s.setBc v).vram = s.vram := rfl
@[simp] theorem State.setBc_wram (v : Word) : (s.setBc v).wram = s.wram := rfl
@[simp] theorem State.setBc_oam (v : Word) : (s.setBc v).oam = s.oam := rfl
@[simp] theorem State.setBc_hram (v : Word) : (s.setBc v).hram = s.hram := rfl
@[simp] theorem State.setBc_env (v : Word) : (s.setBc v).env = s.env := rfl
@[simp] theorem State.setBc_cost (v : Word) : (s.setBc v).cost = s.cost := rfl
@[simp] theorem State.setBc_opAddr (v : Word) : (s.setBc v).opAddr = s.opAddr := rfl

/-! `setDe` -/

@[simp] theorem State.setDe_cpu (v : Word) : (s.setDe v).cpu = { s.cpu with d := hiByte v, e := loByte v } := rfl
@[simp] theorem State.setDe_cfg (v : Word) : (s.setDe v).cfg = s.cfg := rfl
@[simp] theorem State.setDe_powered (v : Word) : (s.setDe v).powered = s.powered := rfl
@[simp] theorem State.setDe_irq (v : Word) : (s.setDe v).irq = s.irq := rfl
@[simp] theorem State.setDe_timer (v : Word) : (s.setDe v).timer = s.timer := rfl
@[simp] theorem State.setDe_lcd (v : Word) : (s.setDe v).lcd = s.lcd := rfl
@[simp] theorem State.setDe_cart (v : Word) : (s.setDe v).cart = s.cart := rfl
@[simp] theorem State.setDe_cram (v : Word) : (s.setDe v).cram = s.cram := rfl
@[simp] theorem State.setDe_vram (v : Word) : (s.setDe v).vram = s.vram := rfl
@[simp] theorem State.setDe_wram (v : Word) : (s.setDe v).wram = s.wram := rfl
@[simp] theorem State.setDe_oam (v : Word) : (s.setDe v).oam = s.oam := rfl
@[simp] theorem State.setDe_hram (v : Word) : (s.setDe v).hram = s.hram := rfl
@[simp] theorem State.setDe_env (v : Word) : (s.setDe v).env = s.env := rfl
@[simp] theorem State.setDe_cost (v : Word) : (s.setDe v).cost = s.cost := rfl
@[simp] theorem State.setDe_opAddr (v : Word) : (s.setDe v).opAddr = s.opAddr := rfl

/-! `setHl` -/

@[simp] theorem State.setHl_cpu (v : Word) : (s.setHl v).cpu = { s.cpu with h := hiByte v, l := loByte v } := rfl
@[simp] theorem State.setHl_cfg (v : Word) : (s.setHl v).cfg = s.cfg := rfl
@[simp] theorem State.setHl_powered (v : Word) : (s.setHl v).powered = s.powered := rfl
@[simp] theorem State.setHl_irq (v : Word) : (s.setHl v).irq = s.irq := rfl
@[simp] theorem State.setHl_timer (v : Word) : (s.setHl v).timer = s.timer := rfl
@[simp] theorem State.setHl_lcd (v : Word) : (s.setHl v).lcd = s.lcd := rfl
@[simp] theorem State.setHl_cart (v : Word) : (s.setHl v).cart = s.cart := rfl
@[simp] theorem State.setHl_cram (v : Word) : (s.setHl v).cram = s.cram := rfl
@[simp] theorem State.setHl_vram (v : Word) : (s.setHl v).vram = s.vram := rfl
@[simp] theorem State.setHl_wram (v : Word) : (s.setHl v).wram = s.wram := rfl
@[simp] theorem State.setHl_oam (v : Word) : (s.setHl v).oam = s.oam := rfl
@[simp] theorem State.setHl_hram (v : Word) : (s.setHl v).hram = s.hram := rfl
@[simp] theorem State.setHl_env (v : Word) : (s.setHl v).env = s.env := rfl
@[simp] theorem State.setHl_cost (v : Word) : (s.setHl v).cost = s.cost := rfl
@[simp] theorem State.setHl_opAddr (v : Word) : (s.setHl v).opAddr = s.opAddr := rfl

/-! `report` -/

@[simp] theorem State.report_cpu (n : Nat) : (s.report n).cpu = s.cpu := rfl
@[simp] theorem State.report_cfg (n : Nat) : (s.report n).cfg = s.cfg := rfl
@[simp] theorem State.report_powered (n : Nat) : (s.report n).powered = s.powered := rfl
@[simp] theorem State.report_irq (n : Nat) : (s.report n).irq = s.irq := rfl
@[simp] theorem State.report_timer (n : Nat) : (s.report n).timer = s.timer := rfl
@[simp] theorem State.report_lcd (n : Nat) : (s.report n).lcd = s.lcd := rfl
@[simp] theorem State.report_cart (n : Nat) : (s.report n).cart = s.cart := rfl
@[simp] theorem State.report_cram (n : Nat) : (s.report n).cram = s.cram := rfl
@[simp] theorem State.report_vram (n : Nat) : (s.report n).vram = s.vram := rfl
@[simp] theorem State.report_wram (n : Nat) : (s.report n).wram = s.wram := rfl
@[simp] theorem State.report_oam (n : Nat) : (s.report n).oam = s.oam := rfl
@[simp] theorem State.report_hram (n : Nat) : (s.report n).hram = s.hram := rfl
@[simp] theorem State.report_env (n : Nat) : (s.report n).env = s.env := rfl
@[simp] theorem State.report_cost (n : Nat) : (s.report n).cost = n := rfl
@[simp] theorem State.report_opAddr (n : Nat) : (s.report n).opAddr = s.opAddr := rfl

/-! `markOpcode` -/

@[simp] theorem State.markOpcode_cpu : (s.markOpcode).cpu = s.cpu := rfl
@[simp] theorem State.markOpcode_cfg : (s.markOpcode).cfg = s.cfg := rfl
@[simp] theorem State.markOpcode_powered : (s.markOpcode).powered = s.powered := rfl
@[simp] theorem State.markOpcode_irq : (s.markOpcode).irq = s.irq := rfl
@[simp] theorem State.markOpcode_timer : (s.markOpcode).timer = s.timer := rfl
@[simp] theorem State.markOpcode_lcd : (s.markOpcode).lcd = s.lcd := rfl
@[simp] theorem State.markOpcode_cart : (s.markOpcode).cart = s.cart := rfl
@[simp] theorem State.markOpcode_cram : (s.markOpcode).cram = s.cram := rfl
@[simp] theorem State.markOpcode_vram : (s.markOpcode).vram = s.vram := rfl
@[simp] theorem State.markOpcode_wram : (s.markOpcode).wram = s.wram := rfl
@[simp] theorem State.markOpcode_oam : (s.markOpcode).oam = s.oam := rfl
@[simp] theorem State.markOpcode_hram : (s.markOpcode).hram = s.hram := rfl
@[simp] theorem State.markOpcode_env : (s.markOpcode).env = s.env := rfl
@[simp] theorem State.markOpcode_cost : (s.markOpcode).cost = s.cost := rfl
@[simp] theorem State.markOpcode_opAddr : (s.markOpcode).opAddr = s.cpu.pc := rfl

/-! `clearRequest` -/

@[simp] theorem State.clearRequest_cpu (n : Nat) : (s.clearRequest n).cpu = s.cpu := rfl
@[simp] theorem State.clearRequest_cfg (n : Nat) : (s.clearRequest n).cfg = s.cfg := rfl
@[simp] theorem State.clearRequest_powered (n : Nat) : (s.clearRequest n).powered = s.powered := rfl
@[simp] theorem State.clearRequest_irq (n : Nat) : (s.clearRequest n).irq = { s.irq with flags := s.irq.flags &&& ~~~(1#5 <<< n) } := rfl
@[simp] theorem State.clearRequest_timer (n : Nat) : (s.clearRequest n).timer = s.timer := rfl
@[simp] theorem State.clearRequest_lcd (n : Nat) : (s.clearRequest n).lcd = s.lcd := rfl
@[simp] theorem State.clearRequest_cart (n : Nat) : (s.clearRequest n).cart = s.cart := rfl
@[simp] theorem State.clearRequest_cram (n : Nat) : (s.clearRequest n).cram = s.cram := rfl
@[simp] theorem State.clearRequest_vram (n : Nat) : (s.clearRequest n).vram = s.vram := rfl
@[simp] theorem State.clearRequest_wram (n : Nat) : (s.clearRequest n).wram = s.wram := rfl
@[simp] theorem State.clearRequest_oam (n : Nat) : (s.clearRequest n).oam = s.oam := rfl
@[simp] theorem State.clearRequest_hram (n : Nat) : (s.clearRequest n).hram = s.hram := rfl
@[simp] theorem State.clearRequest_env (n : Nat) : (s.clearRequest n).env = s.env := rfl
@[simp] theorem State.clearRequest_cost (n : Nat) : (s.clearRequest n).cost = s.cost := rfl
@[simp] theorem State.clearRequest_opAddr (n : Nat) : (s.clearRequest n).opAddr = s.opAddr := rfl

/-! `setReg` -/

@[simp] theorem State.setReg_cfg (r : Reg8) (v : Byte) : (s.setReg r v).cfg = s.cfg := by cases r <;> rfl
@[simp] theorem State.setReg_powered (r : Reg8) (v : Byte) : (s.setReg r v).powered = s.powered := by cases r <;> rfl
@[simp] theorem State.setReg_irq (r : Reg8) (v : Byte) : (s.setReg r v).irq = s.irq := by cases r <;> rfl
@[simp] theorem State.setReg_timer (r : Reg8) (v : Byte) : (s.setReg r v).timer = s.timer := by cases r <;> rfl
@[simp] theorem State.setReg_lcd (r : Reg8) (v : Byte) : (s.setReg r v).lcd = s.lcd := by cases r <;> rfl
@[simp] theorem State.setReg_cart (r : Reg8) (v : Byte) : (s.setReg r v).cart = s.cart := by cases r <;> rfl
@[simp] theorem State.setReg_cram (r : Reg8) (v : Byte) : (s.setReg r v).cram = s.cram := by cases r <;> rfl
@[simp] theorem State.setReg_vram (r : Reg8) (v : Byte) : (s.setReg r v).vram = s.vram := by cases r <;> rfl
@[simp] theorem State.setReg_wram (r : Reg8) (v : Byte) : (s.setReg r v).wram = s.wram := by cases r <;> rfl
@[simp] theorem State.setReg_oam (r : Reg8) (v : Byte) : (s.setReg r v).oam = s.oam := by cases r <;> rfl
@[simp] theorem State.setReg_hram (r : Reg8) (v : Byte) : (s.setReg r v).hram = s.hram := by cases r <;> rfl
@[simp] theorem State.setReg_env (r : Reg8) (v : Byte) : (s.setReg r v).env = s.env := by cases r <;> rfl
@[simp] theorem State.setReg_cost (r : Reg8) (v : Byte) : (s.setReg r v).cost = s.cost := by cases r <;> rfl
@[simp] theorem State.setReg_opAddr (r : Reg8) (v : Byte) : (s.setReg r v).opAddr = s.opAddr := by cases r <;> rfl
@[simp] theorem State.setReg_cpu_f (r : Reg8) (v : Byte) : (s.setReg r v).cpu.f = s.cpu.f := by cases r <;> rfl
@[simp] theorem State.setReg_cpu_sp (r : Reg8) (v : Byte) : (s.setReg r v).cpu.sp = s.cpu.sp := by cases r <;> rfl
@[simp] theorem State.setReg_cpu_pc (r : Reg8) (v : Byte) : (s.setReg r v).cpu.pc = s.cpu.pc := by cases r <;> rfl
@[simp] theorem State.setReg_cpu_ime (r : Reg8) (v : Byte) : (s.setReg r v).cpu.ime = s.cpu.ime := by cases r <;> rfl
@[simp] theorem State.setReg_cpu_eiPending (r : Reg8) (v : Byte) : (s.setReg r v).cpu.eiPending = s.cpu.eiPending := by cases r <;> rfl
@[simp] theorem State.setReg_cpu_halted (r : Reg8) (v : Byte) : (s.setReg r v).cpu.halted = s.cpu.halted := by cases r <;> rfl
@[simp] theorem State.setReg_cpu_haltbugLatch (r : Reg8) (v : Byte) : (s.setReg r v).cpu.haltbugLatch = s.cpu.haltbugLatch := by cases r <;> rfl

/-- A register reads back what was written to it and no other changes. -/
@[simp] theorem State.setReg_reg (r q : Reg8) (v : Byte) :
    (s.setReg r v).reg q = if q = r then v else s.reg q := by cases r <;> cases q <;> rfl

/-- Only PC and SP move outside the eight registers, so the others read as before. -/
@[simp] theorem State.setPc_reg (v : Word) (q : Reg8) : (s.setPc v).reg q = s.reg q := by cases q <;> rfl
@[simp] theorem State.setSp_reg (v : Word) (q : Reg8) : (s.setSp v).reg q = s.reg q := by cases q <;> rfl
@[simp] theorem State.setIme_reg (i e : Bool) (q : Reg8) : (s.setIme i e).reg q = s.reg q := by
  cases q <;> rfl
@[simp] theorem State.setFlags_reg (f : Flags) (q : Reg8) : (s.setFlags f).reg q = s.reg q := by
  cases q <;> rfl
@[simp] theorem State.report_reg (n : Nat) (q : Reg8) : (s.report n).reg q = s.reg q := by cases q <;> rfl

end Sys2Proof.Machine
end

