-- ==== Sys2Proof/Laws/Bus.lean ====
section
/-! SUPPORT. What a read and a write of one byte through the dispatcher can do: the parts of State they
keep, and that neither looks at the CPU registers. -/

namespace Sys2Proof.Machine

variable (s : State)

/-! ## Reads -/

/-- A read changes the environment at most. -/
theorem State.afterRead_eq (a : Word) : s.afterRead a = { s with env := (s.afterRead a).env } := by
  unfold State.afterRead
  split <;> rfl

/-- A read takes at most one answer. -/
theorem State.afterRead_env (a : Word) :
    (s.afterRead a).env = s.env ∨ (s.afterRead a).env = s.env.tookIo := by
  unfold State.afterRead
  split
  · exact .inr rfl
  · exact .inl rfl

@[simp] theorem State.afterRead_cpu (a : Word) : (s.afterRead a).cpu = s.cpu := by rw [State.afterRead_eq]
@[simp] theorem State.afterRead_cfg (a : Word) : (s.afterRead a).cfg = s.cfg := by rw [State.afterRead_eq]
@[simp] theorem State.afterRead_powered (a : Word) : (s.afterRead a).powered = s.powered := by
  rw [State.afterRead_eq]
@[simp] theorem State.afterRead_irq (a : Word) : (s.afterRead a).irq = s.irq := by rw [State.afterRead_eq]
@[simp] theorem State.afterRead_timer (a : Word) : (s.afterRead a).timer = s.timer := by
  rw [State.afterRead_eq]
@[simp] theorem State.afterRead_lcd (a : Word) : (s.afterRead a).lcd = s.lcd := by rw [State.afterRead_eq]
@[simp] theorem State.afterRead_cart (a : Word) : (s.afterRead a).cart = s.cart := by
  rw [State.afterRead_eq]
@[simp] theorem State.afterRead_cram (a : Word) : (s.afterRead a).cram = s.cram := by
  rw [State.afterRead_eq]
@[simp] theorem State.afterRead_vram (a : Word) : (s.afterRead a).vram = s.vram := by
  rw [State.afterRead_eq]
@[simp] theorem State.afterRead_wram (a : Word) : (s.afterRead a).wram = s.wram := by
  rw [State.afterRead_eq]
@[simp] theorem State.afterRead_oam (a : Word) : (s.afterRead a).oam = s.oam := by rw [State.afterRead_eq]
@[simp] theorem State.afterRead_hram (a : Word) : (s.afterRead a).hram = s.hram := by
  rw [State.afterRead_eq]
@[simp] theorem State.afterRead_cost (a : Word) : (s.afterRead a).cost = s.cost := by
  rw [State.afterRead_eq]
@[simp] theorem State.afterRead_opAddr (a : Word) : (s.afterRead a).opAddr = s.opAddr := by
  rw [State.afterRead_eq]
@[simp] theorem Env.stepInput_cons (e : Env) (i : StepInput) (rest : List StepInput) :
    ({ e with steps := i :: rest } : Env).stepInput = i := rfl
@[simp] theorem Env.tookStep_steps (e : Env) : e.tookStep.steps = e.steps.tail := rfl
@[simp] theorem Env.tookStep_stepCount (e : Env) : e.tookStep.stepCount = e.stepCount + 1 := rfl
@[simp] theorem Env.tookStep_ioIn (e : Env) : e.tookStep.ioIn = e.ioIn := rfl
@[simp] theorem Env.tookStep_ioCount (e : Env) : e.tookStep.ioCount = e.ioCount := rfl
@[simp] theorem Env.tookStep_rtcIn (e : Env) : e.tookStep.rtcIn = e.rtcIn := rfl
@[simp] theorem Env.tookStep_rtcCount (e : Env) : e.tookStep.rtcCount = e.rtcCount := rfl
@[simp] theorem Env.tookStep_ioOut (e : Env) : e.tookStep.ioOut = e.ioOut := rfl
@[simp] theorem Env.tookIo_steps (e : Env) : e.tookIo.steps = e.steps := by unfold Env.tookIo; split <;> rfl
@[simp] theorem Env.tookRtc_steps (e : Env) : e.tookRtc.steps = e.steps := by
  unfold Env.tookRtc; split <;> rfl
@[simp] theorem Env.tookIo_stepCount (e : Env) : e.tookIo.stepCount = e.stepCount := by
  unfold Env.tookIo; split <;> rfl
@[simp] theorem Env.tookRtc_stepCount (e : Env) : e.tookRtc.stepCount = e.stepCount := by
  unfold Env.tookRtc; split <;> rfl
@[simp] theorem Env.tookIo_ioOut (e : Env) : e.tookIo.ioOut = e.ioOut := by unfold Env.tookIo; split <;> rfl
@[simp] theorem State.afterRead_env_steps (a : Word) : (s.afterRead a).env.steps = s.env.steps := by
  rcases s.afterRead_env a with h | h <;> rw [h]
  exact Env.tookIo_steps _
@[simp] theorem State.afterRead_env_stepCount (a : Word) :
    (s.afterRead a).env.stepCount = s.env.stepCount := by
  rcases s.afterRead_env a with h | h <;> rw [h]
  exact Env.tookIo_stepCount _

/-- A read of an address the block owns changes nothing. -/
theorem State.afterRead_of_ne {a : Word} (h : regionOf a ≠ .external) : s.afterRead a = s := by
  unfold State.afterRead
  split
  · contradiction
  · rfl

/-- A read sees the CPU registers, the cost and the opcode address nowhere. -/
@[simp] theorem State.busRead_setCpu (a : Word) (c : Cpu) (n : Nat) (o : Word) (p : Bool) :
    ({ s with cpu := c, cost := n, opAddr := o, powered := p } : State).busRead a = s.busRead a := rfl

theorem State.afterRead_setCpu (a : Word) (c : Cpu) (n : Nat) (o : Word) (p : Bool) :
    ({ s with cpu := c, cost := n, opAddr := o, powered := p } : State).afterRead a =
      { s.afterRead a with cpu := c, cost := n, opAddr := o, powered := p } := by
  unfold State.afterRead
  split <;> rfl

/-- Only an address outside the block reads differently when only the environment differs. -/
theorem State.busRead_setEnv {a : Word} (h : regionOf a ≠ .external) (e : Env) :
    ({ s with env := e } : State).busRead a = s.busRead a := by
  unfold State.busRead
  split <;> first | rfl | contradiction

theorem State.busRead_afterRead {a b : Word} (h : regionOf a ≠ .external ∨ regionOf b ≠ .external) :
    (s.afterRead a).busRead b = s.busRead b := by
  rcases h with h | h
  · rw [s.afterRead_of_ne h]
  · rw [State.afterRead_eq]; exact s.busRead_setEnv h _

/-! ## The OAM copy -/

/-- The copy changes OAM and the environment, nothing else. -/
theorem State.copyToOam_eq (page : Byte) (n i : Nat) :
    State.copyToOam page n i s =
      { s with oam := (State.copyToOam page n i s).oam, env := (State.copyToOam page n i s).env } := by
  induction n generalizing i s with
  | zero => rfl
  | succ n ih =>
    simp only [State.copyToOam]
    rw [ih]
    simp

theorem State.copyToOam_steps (page : Byte) (n i : Nat) :
    (State.copyToOam page n i s).env.steps = s.env.steps ∧
      (State.copyToOam page n i s).env.stepCount = s.env.stepCount := by
  induction n generalizing i s with
  | zero => exact ⟨rfl, rfl⟩
  | succ n ih => simp only [State.copyToOam, ih, State.afterRead_env_steps, State.afterRead_env_stepCount, and_self]

theorem State.copyToOam_setCpu (page : Byte) (n i : Nat) (c : Cpu) (k : Nat) (o : Word) (p : Bool) :
    State.copyToOam page n i { s with cpu := c, cost := k, opAddr := o, powered := p } =
      { State.copyToOam page n i s with cpu := c, cost := k, opAddr := o, powered := p } := by
  induction n generalizing i s with
  | zero => rfl
  | succ n ih =>
    simp only [State.copyToOam, State.busRead_setCpu, State.afterRead_setCpu]
    exact ih { s.afterRead (join page 0 + BitVec.ofNat 16 i) with
      oam := (s.afterRead (join page 0 + BitVec.ofNat 16 i)).oam.write i
        (s.busRead (join page 0 + BitVec.ofNat 16 i)) } (i + 1)

/-! ## Writes -/

/-- A write neither looks at nor changes the CPU registers, the cost, the opcode address and `powered`. -/
theorem State.busWrite_setCpu (a : Word) (v : Byte) (c : Cpu) (n : Nat) (o : Word) (p : Bool) :
    ({ s with cpu := c, cost := n, opAddr := o, powered := p } : State).busWrite a v =
      { s.busWrite a v with cpu := c, cost := n, opAddr := o, powered := p } := by
  unfold State.busWrite
  split
  · simp only [State.controlWrite, State.latchClock]
    repeat' split
    all_goals rfl
  · rfl
  · simp only [State.writeExt]
    split <;> rfl
  · rfl
  · rfl
  · rfl
  · rename_i p' _
    cases p'
    case dma =>
      simp only [State.writePort, State.writeDma]
      exact State.copyToOam_setCpu { s with lcd := { s.lcd with dma := v } } _ _ _ _ _ _ _
    all_goals rfl
  · rfl
  · rfl
  · rfl

theorem State.busWrite_keeps (a : Word) (v : Byte) :
    (s.busWrite a v).cpu = s.cpu ∧ (s.busWrite a v).cost = s.cost ∧ (s.busWrite a v).opAddr = s.opAddr ∧
      (s.busWrite a v).powered = s.powered := by
  have h := s.busWrite_setCpu a v s.cpu s.cost s.opAddr s.powered
  refine ⟨?_, ?_, ?_, ?_⟩
  · have := congrArg State.cpu h; exact this
  · have := congrArg State.cost h; exact this
  · have := congrArg State.opAddr h; exact this
  · have := congrArg State.powered h; exact this

@[simp] theorem State.busWrite_cpu (a : Word) (v : Byte) : (s.busWrite a v).cpu = s.cpu :=
  (s.busWrite_keeps a v).1
@[simp] theorem State.busWrite_cost (a : Word) (v : Byte) : (s.busWrite a v).cost = s.cost :=
  (s.busWrite_keeps a v).2.1
@[simp] theorem State.busWrite_opAddr (a : Word) (v : Byte) : (s.busWrite a v).opAddr = s.opAddr :=
  (s.busWrite_keeps a v).2.2.1
@[simp] theorem State.busWrite_powered (a : Word) (v : Byte) : (s.busWrite a v).powered = s.powered :=
  (s.busWrite_keeps a v).2.2.2

/-- A write changes neither the parameters nor the inputs of the steps to come nor their index. -/
theorem State.busWrite_fixed (a : Word) (v : Byte) :
    (s.busWrite a v).cfg = s.cfg ∧ (s.busWrite a v).env.steps = s.env.steps ∧
      (s.busWrite a v).env.stepCount = s.env.stepCount := by
  unfold State.busWrite
  split
  · simp only [State.controlWrite, State.latchClock]
    repeat' split
    all_goals simp
  · exact ⟨rfl, rfl, rfl⟩
  · simp only [State.writeExt]
    split <;> exact ⟨rfl, rfl, rfl⟩
  · exact ⟨rfl, rfl, rfl⟩
  · exact ⟨rfl, rfl, rfl⟩
  · exact ⟨rfl, rfl, rfl⟩
  · rename_i p _
    cases p
    case dma =>
      simp only [State.writePort, State.writeDma]
      exact ⟨by rw [State.copyToOam_eq], State.copyToOam_steps _ _ _ _⟩
    all_goals exact ⟨rfl, rfl, rfl⟩
  · exact ⟨rfl, rfl, rfl⟩
  · exact ⟨rfl, rfl, rfl⟩
  · exact ⟨rfl, rfl, rfl⟩

@[simp] theorem State.busWrite_cfg (a : Word) (v : Byte) : (s.busWrite a v).cfg = s.cfg :=
  (s.busWrite_fixed a v).1
@[simp] theorem State.busWrite_env_steps (a : Word) (v : Byte) :
    (s.busWrite a v).env.steps = s.env.steps := (s.busWrite_fixed a v).2.1
@[simp] theorem State.busWrite_env_stepCount (a : Word) (v : Byte) :
    (s.busWrite a v).env.stepCount = s.env.stepCount := (s.busWrite_fixed a v).2.2

/-! ## The stack -/

/-- `Push16` as two writes and one move of SP. -/
theorem State.push16_eq (v : Word) :
    s.push16 v =
      { (s.busWrite (s.cpu.sp - 1) (hiByte v)).busWrite (s.cpu.sp - 2) (loByte v) with
        cpu := { s.cpu with sp := s.cpu.sp - 2 } } := by
  have e : s.cpu.sp - 1 - 1 = s.cpu.sp - 2 := by bv_omega
  have h1 := s.busWrite_setCpu (s.cpu.sp - 1) (hiByte v) { s.cpu with sp := s.cpu.sp - 1 } s.cost s.opAddr
    s.powered
  have h2 := (s.busWrite (s.cpu.sp - 1) (hiByte v)).busWrite_setCpu (s.cpu.sp - 2) (loByte v)
    { s.cpu with sp := s.cpu.sp - 2 } s.cost s.opAddr s.powered
  simp only [State.push16, State.push8, State.setSp, h1, e]
  refine h2.trans ?_
  simp

/-- `Pop16` as two reads and one move of SP. -/
theorem State.afterPop16_eq :
    s.afterPop16 =
      { (s.afterRead s.cpu.sp).afterRead (s.cpu.sp + 1) with cpu := { s.cpu with sp := s.cpu.sp + 2 } } := by
  have e : s.cpu.sp + 1 + 1 = s.cpu.sp + 2 := by bv_omega
  have h := (s.afterRead s.cpu.sp).afterRead_setCpu (s.cpu.sp + 1) { s.cpu with sp := s.cpu.sp + 1 } s.cost
    s.opAddr s.powered
  simp only [State.afterPop16, State.afterPop8, State.setSp, State.afterRead_cpu, e]
  rw [show ({ s.afterRead s.cpu.sp with cpu := { s.cpu with sp := s.cpu.sp + 1 } } : State) =
    { s.afterRead s.cpu.sp with
      cpu := { s.cpu with sp := s.cpu.sp + 1 }, cost := s.cost, opAddr := s.opAddr, powered := s.powered }
    by rw [State.afterRead_eq], h]
  simp

theorem State.popped16_eq :
    s.popped16 = join ((s.afterRead s.cpu.sp).busRead (s.cpu.sp + 1)) (s.busRead s.cpu.sp) := by
  simp only [State.popped16, State.afterPop8, State.setSp, State.afterRead_cpu]
  rfl

end Sys2Proof.Machine
end

