-- ==== Sys2Proof/Laws/Exec.lean ====
section
/-! SUPPORT. What `exec` answers for each instruction, one equation per constructor, true by `rfl`: later
proofs rewrite with these and never unfold a meaning. -/

namespace Sys2Proof.Machine

variable (s : State)

@[simp] theorem exec_nop : exec .nop s = .next (s.report 4) := rfl
@[simp] theorem exec_ldBcNn (nn : Word) : exec (.ldBcNn nn) s = .next ((s.setReg16 .bc nn).report 12) := rfl
@[simp] theorem exec_ldAtBcA : exec .ldAtBcA s = storeTo s.bc (s.reg .a) 8 s := rfl
@[simp] theorem exec_incBc : exec .incBc s = .next ((s.setReg16 .bc (s.reg16 .bc + 1)).report 8) := rfl
@[simp] theorem exec_incB : exec .incB s = incOperand (.reg .b) s := rfl
@[simp] theorem exec_decB : exec .decB s = decOperand (.reg .b) s := rfl
@[simp] theorem exec_ldBN (n : Byte) : exec (.ldBN n) s = .next ((s.setReg .b n).report 8) := rfl
@[simp] theorem exec_rlca : exec .rlca s = rotateA .rlc s := rfl
@[simp] theorem exec_ldAtNnSp (nn : Word) : exec (.ldAtNnSp nn) s =
    .next (((s.busWrite nn (loByte s.cpu.sp)).busWrite (nn + 1) (hiByte s.cpu.sp)).report 20) := rfl
@[simp] theorem exec_addHlBc : exec .addHlBc s = addToHl .bc s := rfl
@[simp] theorem exec_ldAAtBc : exec .ldAAtBc s = loadFrom .a s.bc 8 s := rfl
@[simp] theorem exec_decBc : exec .decBc s = .next ((s.setReg16 .bc (s.reg16 .bc - 1)).report 8) := rfl
@[simp] theorem exec_incC : exec .incC s = incOperand (.reg .c) s := rfl
@[simp] theorem exec_decC : exec .decC s = decOperand (.reg .c) s := rfl
@[simp] theorem exec_ldCN (n : Byte) : exec (.ldCN n) s = .next ((s.setReg .c n).report 8) := rfl
@[simp] theorem exec_rrca : exec .rrca s = rotateA .rrc s := rfl
@[simp] theorem exec_stop (pad : Byte) : exec (.stop pad) s = .next (s.haltOperation.report 4) := rfl
@[simp] theorem exec_ldDeNn (nn : Word) : exec (.ldDeNn nn) s = .next ((s.setReg16 .de nn).report 12) := rfl
@[simp] theorem exec_ldAtDeA : exec .ldAtDeA s = storeTo s.de (s.reg .a) 8 s := rfl
@[simp] theorem exec_incDe : exec .incDe s = .next ((s.setReg16 .de (s.reg16 .de + 1)).report 8) := rfl
@[simp] theorem exec_incD : exec .incD s = incOperand (.reg .d) s := rfl
@[simp] theorem exec_decD : exec .decD s = decOperand (.reg .d) s := rfl
@[simp] theorem exec_ldDN (n : Byte) : exec (.ldDN n) s = .next ((s.setReg .d n).report 8) := rfl
@[simp] theorem exec_rla : exec .rla s = rotateA .rl s := rfl
@[simp] theorem exec_jrE (e : Byte) : exec (.jrE e) s =
    .next ((s.setPc (s.cpu.pc + sext16 e)).report 12) := rfl
@[simp] theorem exec_addHlDe : exec .addHlDe s = addToHl .de s := rfl
@[simp] theorem exec_ldAAtDe : exec .ldAAtDe s = loadFrom .a s.de 8 s := rfl
@[simp] theorem exec_decDe : exec .decDe s = .next ((s.setReg16 .de (s.reg16 .de - 1)).report 8) := rfl
@[simp] theorem exec_incE : exec .incE s = incOperand (.reg .e) s := rfl
@[simp] theorem exec_decE : exec .decE s = decOperand (.reg .e) s := rfl
@[simp] theorem exec_ldEN (n : Byte) : exec (.ldEN n) s = .next ((s.setReg .e n).report 8) := rfl
@[simp] theorem exec_rra : exec .rra s = rotateA .rr s := rfl
@[simp] theorem exec_jrNzE (e : Byte) : exec (.jrNzE e) s =
    branch .nz (s.setPc (s.cpu.pc + sext16 e)) 12 8 s := rfl
@[simp] theorem exec_ldHlNn (nn : Word) : exec (.ldHlNn nn) s = .next ((s.setReg16 .hl nn).report 12) := rfl
@[simp] theorem exec_ldAtHlIncA : exec .ldAtHlIncA s = storeStep 1 s := rfl
@[simp] theorem exec_incHl : exec .incHl s = .next ((s.setReg16 .hl (s.reg16 .hl + 1)).report 8) := rfl
@[simp] theorem exec_incH : exec .incH s = incOperand (.reg .h) s := rfl
@[simp] theorem exec_decH : exec .decH s = decOperand (.reg .h) s := rfl
@[simp] theorem exec_ldHN (n : Byte) : exec (.ldHN n) s = .next ((s.setReg .h n).report 8) := rfl
@[simp] theorem exec_daa : exec .daa s =
    .next ((s.setAF (daa s.cpu.a s.cpu.f).1 (daa s.cpu.a s.cpu.f).2).report 4) := rfl
@[simp] theorem exec_jrZE (e : Byte) : exec (.jrZE e) s =
    branch .z (s.setPc (s.cpu.pc + sext16 e)) 12 8 s := rfl
@[simp] theorem exec_addHlHl : exec .addHlHl s = addToHl .hl s := rfl
@[simp] theorem exec_ldAAtHlInc : exec .ldAAtHlInc s = loadStep 1 s := rfl
@[simp] theorem exec_decHl : exec .decHl s = .next ((s.setReg16 .hl (s.reg16 .hl - 1)).report 8) := rfl
@[simp] theorem exec_incL : exec .incL s = incOperand (.reg .l) s := rfl
@[simp] theorem exec_decL : exec .decL s = decOperand (.reg .l) s := rfl
@[simp] theorem exec_ldLN (n : Byte) : exec (.ldLN n) s = .next ((s.setReg .l n).report 8) := rfl
@[simp] theorem exec_cpl : exec .cpl s =
    .next ((s.setAF (cpl s.cpu.a s.cpu.f).1 (cpl s.cpu.a s.cpu.f).2).report 4) := rfl
@[simp] theorem exec_jrNcE (e : Byte) : exec (.jrNcE e) s =
    branch .nc (s.setPc (s.cpu.pc + sext16 e)) 12 8 s := rfl
@[simp] theorem exec_ldSpNn (nn : Word) : exec (.ldSpNn nn) s = .next ((s.setReg16 .sp nn).report 12) := rfl
@[simp] theorem exec_ldAtHlDecA : exec .ldAtHlDecA s = storeStep (-1) s := rfl
@[simp] theorem exec_incSp : exec .incSp s = .next ((s.setReg16 .sp (s.reg16 .sp + 1)).report 8) := rfl
@[simp] theorem exec_incAtHl : exec .incAtHl s = incOperand .atHl s := rfl
@[simp] theorem exec_decAtHl : exec .decAtHl s = decOperand .atHl s := rfl
@[simp] theorem exec_ldAtHlN (n : Byte) : exec (.ldAtHlN n) s = storeTo s.hl n 12 s := rfl
@[simp] theorem exec_scf : exec .scf s = .next ((s.setFlags (scf s.cpu.f)).report 4) := rfl
@[simp] theorem exec_jrCE (e : Byte) : exec (.jrCE e) s =
    branch .c (s.setPc (s.cpu.pc + sext16 e)) 12 8 s := rfl
@[simp] theorem exec_addHlSp : exec .addHlSp s = addToHl .sp s := rfl
@[simp] theorem exec_ldAAtHlDec : exec .ldAAtHlDec s = loadStep (-1) s := rfl
@[simp] theorem exec_decSp : exec .decSp s = .next ((s.setReg16 .sp (s.reg16 .sp - 1)).report 8) := rfl
@[simp] theorem exec_incA : exec .incA s = incOperand (.reg .a) s := rfl
@[simp] theorem exec_decA : exec .decA s = decOperand (.reg .a) s := rfl
@[simp] theorem exec_ldAN (n : Byte) : exec (.ldAN n) s = .next ((s.setReg .a n).report 8) := rfl
@[simp] theorem exec_ccf : exec .ccf s = .next ((s.setFlags (ccf s.cpu.f)).report 4) := rfl
@[simp] theorem exec_ldBB : exec .ldBB s = .next ((s.setReg .b (s.reg .b)).report 4) := rfl
@[simp] theorem exec_ldBC : exec .ldBC s = .next ((s.setReg .b (s.reg .c)).report 4) := rfl
@[simp] theorem exec_ldBD : exec .ldBD s = .next ((s.setReg .b (s.reg .d)).report 4) := rfl
@[simp] theorem exec_ldBE : exec .ldBE s = .next ((s.setReg .b (s.reg .e)).report 4) := rfl
@[simp] theorem exec_ldBH : exec .ldBH s = .next ((s.setReg .b (s.reg .h)).report 4) := rfl
@[simp] theorem exec_ldBL : exec .ldBL s = .next ((s.setReg .b (s.reg .l)).report 4) := rfl
@[simp] theorem exec_ldBAtHl : exec .ldBAtHl s = loadFrom .b s.hl 8 s := rfl
@[simp] theorem exec_ldBA : exec .ldBA s = .next ((s.setReg .b (s.reg .a)).report 4) := rfl
@[simp] theorem exec_ldCB : exec .ldCB s = .next ((s.setReg .c (s.reg .b)).report 4) := rfl
@[simp] theorem exec_ldCC : exec .ldCC s = .next ((s.setReg .c (s.reg .c)).report 4) := rfl
@[simp] theorem exec_ldCD : exec .ldCD s = .next ((s.setReg .c (s.reg .d)).report 4) := rfl
@[simp] theorem exec_ldCE : exec .ldCE s = .next ((s.setReg .c (s.reg .e)).report 4) := rfl
@[simp] theorem exec_ldCH : exec .ldCH s = .next ((s.setReg .c (s.reg .h)).report 4) := rfl
@[simp] theorem exec_ldCL : exec .ldCL s = .next ((s.setReg .c (s.reg .l)).report 4) := rfl
@[simp] theorem exec_ldCAtHl : exec .ldCAtHl s = loadFrom .c s.hl 8 s := rfl
@[simp] theorem exec_ldCA : exec .ldCA s = .next ((s.setReg .c (s.reg .a)).report 4) := rfl
@[simp] theorem exec_ldDB : exec .ldDB s = .next ((s.setReg .d (s.reg .b)).report 4) := rfl
@[simp] theorem exec_ldDC : exec .ldDC s = .next ((s.setReg .d (s.reg .c)).report 4) := rfl
@[simp] theorem exec_ldDD : exec .ldDD s = .next ((s.setReg .d (s.reg .d)).report 4) := rfl
@[simp] theorem exec_ldDE : exec .ldDE s = .next ((s.setReg .d (s.reg .e)).report 4) := rfl
@[simp] theorem exec_ldDH : exec .ldDH s = .next ((s.setReg .d (s.reg .h)).report 4) := rfl
@[simp] theorem exec_ldDL : exec .ldDL s = .next ((s.setReg .d (s.reg .l)).report 4) := rfl
@[simp] theorem exec_ldDAtHl : exec .ldDAtHl s = loadFrom .d s.hl 8 s := rfl
@[simp] theorem exec_ldDA : exec .ldDA s = .next ((s.setReg .d (s.reg .a)).report 4) := rfl
@[simp] theorem exec_ldEB : exec .ldEB s = .next ((s.setReg .e (s.reg .b)).report 4) := rfl
@[simp] theorem exec_ldEC : exec .ldEC s = .next ((s.setReg .e (s.reg .c)).report 4) := rfl
@[simp] theorem exec_ldED : exec .ldED s = .next ((s.setReg .e (s.reg .d)).report 4) := rfl
@[simp] theorem exec_ldEE : exec .ldEE s = .next ((s.setReg .e (s.reg .e)).report 4) := rfl
@[simp] theorem exec_ldEH : exec .ldEH s = .next ((s.setReg .e (s.reg .h)).report 4) := rfl
@[simp] theorem exec_ldEL : exec .ldEL s = .next ((s.setReg .e (s.reg .l)).report 4) := rfl
@[simp] theorem exec_ldEAtHl : exec .ldEAtHl s = loadFrom .e s.hl 8 s := rfl
@[simp] theorem exec_ldEA : exec .ldEA s = .next ((s.setReg .e (s.reg .a)).report 4) := rfl
@[simp] theorem exec_ldHB : exec .ldHB s = .next ((s.setReg .h (s.reg .b)).report 4) := rfl
@[simp] theorem exec_ldHC : exec .ldHC s = .next ((s.setReg .h (s.reg .c)).report 4) := rfl
@[simp] theorem exec_ldHD : exec .ldHD s = .next ((s.setReg .h (s.reg .d)).report 4) := rfl
@[simp] theorem exec_ldHE : exec .ldHE s = .next ((s.setReg .h (s.reg .e)).report 4) := rfl
@[simp] theorem exec_ldHH : exec .ldHH s = .next ((s.setReg .h (s.reg .h)).report 4) := rfl
@[simp] theorem exec_ldHL : exec .ldHL s = .next ((s.setReg .h (s.reg .l)).report 4) := rfl
@[simp] theorem exec_ldHAtHl : exec .ldHAtHl s = loadFrom .h s.hl 8 s := rfl
@[simp] theorem exec_ldHA : exec .ldHA s = .next ((s.setReg .h (s.reg .a)).report 4) := rfl
@[simp] theorem exec_ldLB : exec .ldLB s = .next ((s.setReg .l (s.reg .b)).report 4) := rfl
@[simp] theorem exec_ldLC : exec .ldLC s = .next ((s.setReg .l (s.reg .c)).report 4) := rfl
@[simp] theorem exec_ldLD : exec .ldLD s = .next ((s.setReg .l (s.reg .d)).report 4) := rfl
@[simp] theorem exec_ldLE : exec .ldLE s = .next ((s.setReg .l (s.reg .e)).report 4) := rfl
@[simp] theorem exec_ldLH : exec .ldLH s = .next ((s.setReg .l (s.reg .h)).report 4) := rfl
@[simp] theorem exec_ldLL : exec .ldLL s = .next ((s.setReg .l (s.reg .l)).report 4) := rfl
@[simp] theorem exec_ldLAtHl : exec .ldLAtHl s = loadFrom .l s.hl 8 s := rfl
@[simp] theorem exec_ldLA : exec .ldLA s = .next ((s.setReg .l (s.reg .a)).report 4) := rfl
@[simp] theorem exec_ldAtHlB : exec .ldAtHlB s = storeTo s.hl (s.reg .b) 8 s := rfl
@[simp] theorem exec_ldAtHlC : exec .ldAtHlC s = storeTo s.hl (s.reg .c) 8 s := rfl
@[simp] theorem exec_ldAtHlD : exec .ldAtHlD s = storeTo s.hl (s.reg .d) 8 s := rfl
@[simp] theorem exec_ldAtHlE : exec .ldAtHlE s = storeTo s.hl (s.reg .e) 8 s := rfl
@[simp] theorem exec_ldAtHlH : exec .ldAtHlH s = storeTo s.hl (s.reg .h) 8 s := rfl
@[simp] theorem exec_ldAtHlL : exec .ldAtHlL s = storeTo s.hl (s.reg .l) 8 s := rfl
@[simp] theorem exec_halt : exec .halt s = .next (s.haltOperation.report 4) := rfl
@[simp] theorem exec_ldAtHlA : exec .ldAtHlA s = storeTo s.hl (s.reg .a) 8 s := rfl
@[simp] theorem exec_ldAB : exec .ldAB s = .next ((s.setReg .a (s.reg .b)).report 4) := rfl
@[simp] theorem exec_ldAC : exec .ldAC s = .next ((s.setReg .a (s.reg .c)).report 4) := rfl
@[simp] theorem exec_ldAD : exec .ldAD s = .next ((s.setReg .a (s.reg .d)).report 4) := rfl
@[simp] theorem exec_ldAE : exec .ldAE s = .next ((s.setReg .a (s.reg .e)).report 4) := rfl
@[simp] theorem exec_ldAH : exec .ldAH s = .next ((s.setReg .a (s.reg .h)).report 4) := rfl
@[simp] theorem exec_ldAL : exec .ldAL s = .next ((s.setReg .a (s.reg .l)).report 4) := rfl
@[simp] theorem exec_ldAAtHl : exec .ldAAtHl s = loadFrom .a s.hl 8 s := rfl
@[simp] theorem exec_ldAA : exec .ldAA s = .next ((s.setReg .a (s.reg .a)).report 4) := rfl
@[simp] theorem exec_addAB : exec .addAB s = aluOperand .add (.reg .b) s := rfl
@[simp] theorem exec_addAC : exec .addAC s = aluOperand .add (.reg .c) s := rfl
@[simp] theorem exec_addAD : exec .addAD s = aluOperand .add (.reg .d) s := rfl
@[simp] theorem exec_addAE : exec .addAE s = aluOperand .add (.reg .e) s := rfl
@[simp] theorem exec_addAH : exec .addAH s = aluOperand .add (.reg .h) s := rfl
@[simp] theorem exec_addAL : exec .addAL s = aluOperand .add (.reg .l) s := rfl
@[simp] theorem exec_addAAtHl : exec .addAAtHl s = aluOperand .add .atHl s := rfl
@[simp] theorem exec_addAA : exec .addAA s = aluOperand .add (.reg .a) s := rfl
@[simp] theorem exec_adcAB : exec .adcAB s = aluOperand .adc (.reg .b) s := rfl
@[simp] theorem exec_adcAC : exec .adcAC s = aluOperand .adc (.reg .c) s := rfl
@[simp] theorem exec_adcAD : exec .adcAD s = aluOperand .adc (.reg .d) s := rfl
@[simp] theorem exec_adcAE : exec .adcAE s = aluOperand .adc (.reg .e) s := rfl
@[simp] theorem exec_adcAH : exec .adcAH s = aluOperand .adc (.reg .h) s := rfl
@[simp] theorem exec_adcAL : exec .adcAL s = aluOperand .adc (.reg .l) s := rfl
@[simp] theorem exec_adcAAtHl : exec .adcAAtHl s = aluOperand .adc .atHl s := rfl
@[simp] theorem exec_adcAA : exec .adcAA s = aluOperand .adc (.reg .a) s := rfl
@[simp] theorem exec_subB : exec .subB s = aluOperand .sub (.reg .b) s := rfl
@[simp] theorem exec_subC : exec .subC s = aluOperand .sub (.reg .c) s := rfl
@[simp] theorem exec_subD : exec .subD s = aluOperand .sub (.reg .d) s := rfl
@[simp] theorem exec_subE : exec .subE s = aluOperand .sub (.reg .e) s := rfl
@[simp] theorem exec_subH : exec .subH s = aluOperand .sub (.reg .h) s := rfl
@[simp] theorem exec_subL : exec .subL s = aluOperand .sub (.reg .l) s := rfl
@[simp] theorem exec_subAtHl : exec .subAtHl s = aluOperand .sub .atHl s := rfl
@[simp] theorem exec_subA : exec .subA s = aluOperand .sub (.reg .a) s := rfl
@[simp] theorem exec_sbcAB : exec .sbcAB s = aluOperand .sbc (.reg .b) s := rfl
@[simp] theorem exec_sbcAC : exec .sbcAC s = aluOperand .sbc (.reg .c) s := rfl
@[simp] theorem exec_sbcAD : exec .sbcAD s = aluOperand .sbc (.reg .d) s := rfl
@[simp] theorem exec_sbcAE : exec .sbcAE s = aluOperand .sbc (.reg .e) s := rfl
@[simp] theorem exec_sbcAH : exec .sbcAH s = aluOperand .sbc (.reg .h) s := rfl
@[simp] theorem exec_sbcAL : exec .sbcAL s = aluOperand .sbc (.reg .l) s := rfl
@[simp] theorem exec_sbcAAtHl : exec .sbcAAtHl s = aluOperand .sbc .atHl s := rfl
@[simp] theorem exec_sbcAA : exec .sbcAA s = aluOperand .sbc (.reg .a) s := rfl
@[simp] theorem exec_andB : exec .andB s = aluOperand .and (.reg .b) s := rfl
@[simp] theorem exec_andC : exec .andC s = aluOperand .and (.reg .c) s := rfl
@[simp] theorem exec_andD : exec .andD s = aluOperand .and (.reg .d) s := rfl
@[simp] theorem exec_andE : exec .andE s = aluOperand .and (.reg .e) s := rfl
@[simp] theorem exec_andH : exec .andH s = aluOperand .and (.reg .h) s := rfl
@[simp] theorem exec_andL : exec .andL s = aluOperand .and (.reg .l) s := rfl
@[simp] theorem exec_andAtHl : exec .andAtHl s = aluOperand .and .atHl s := rfl
@[simp] theorem exec_andA : exec .andA s = aluOperand .and (.reg .a) s := rfl
@[simp] theorem exec_xorB : exec .xorB s = aluOperand .xor (.reg .b) s := rfl
@[simp] theorem exec_xorC : exec .xorC s = aluOperand .xor (.reg .c) s := rfl
@[simp] theorem exec_xorD : exec .xorD s = aluOperand .xor (.reg .d) s := rfl
@[simp] theorem exec_xorE : exec .xorE s = aluOperand .xor (.reg .e) s := rfl
@[simp] theorem exec_xorH : exec .xorH s = aluOperand .xor (.reg .h) s := rfl
@[simp] theorem exec_xorL : exec .xorL s = aluOperand .xor (.reg .l) s := rfl
@[simp] theorem exec_xorAtHl : exec .xorAtHl s = aluOperand .xor .atHl s := rfl
@[simp] theorem exec_xorA : exec .xorA s = aluOperand .xor (.reg .a) s := rfl
@[simp] theorem exec_orB : exec .orB s = aluOperand .or (.reg .b) s := rfl
@[simp] theorem exec_orC : exec .orC s = aluOperand .or (.reg .c) s := rfl
@[simp] theorem exec_orD : exec .orD s = aluOperand .or (.reg .d) s := rfl
@[simp] theorem exec_orE : exec .orE s = aluOperand .or (.reg .e) s := rfl
@[simp] theorem exec_orH : exec .orH s = aluOperand .or (.reg .h) s := rfl
@[simp] theorem exec_orL : exec .orL s = aluOperand .or (.reg .l) s := rfl
@[simp] theorem exec_orAtHl : exec .orAtHl s = aluOperand .or .atHl s := rfl
@[simp] theorem exec_orA : exec .orA s = aluOperand .or (.reg .a) s := rfl
@[simp] theorem exec_cpB : exec .cpB s = aluOperand .cp (.reg .b) s := rfl
@[simp] theorem exec_cpC : exec .cpC s = aluOperand .cp (.reg .c) s := rfl
@[simp] theorem exec_cpD : exec .cpD s = aluOperand .cp (.reg .d) s := rfl
@[simp] theorem exec_cpE : exec .cpE s = aluOperand .cp (.reg .e) s := rfl
@[simp] theorem exec_cpH : exec .cpH s = aluOperand .cp (.reg .h) s := rfl
@[simp] theorem exec_cpL : exec .cpL s = aluOperand .cp (.reg .l) s := rfl
@[simp] theorem exec_cpAtHl : exec .cpAtHl s = aluOperand .cp .atHl s := rfl
@[simp] theorem exec_cpA : exec .cpA s = aluOperand .cp (.reg .a) s := rfl
@[simp] theorem exec_retNz : exec .retNz s = branch .nz s.ret 20 8 s := rfl
@[simp] theorem exec_popBc : exec .popBc s = pop .bc s := rfl
@[simp] theorem exec_jpNzNn (nn : Word) : exec (.jpNzNn nn) s = branch .nz (s.setPc nn) 16 12 s := rfl
@[simp] theorem exec_jpNn (nn : Word) : exec (.jpNn nn) s = .next ((s.setPc nn).report 16) := rfl
@[simp] theorem exec_callNzNn (nn : Word) : exec (.callNzNn nn) s = branch .nz (s.call nn) 24 12 s := rfl
@[simp] theorem exec_pushBc : exec .pushBc s = push .bc s := rfl
@[simp] theorem exec_addAN (n : Byte) : exec (.addAN n) s = aluImmediate .add n s := rfl
@[simp] theorem exec_rst00 : exec .rst00 s = .next ((s.call 0x00).report 16) := rfl
@[simp] theorem exec_retZ : exec .retZ s = branch .z s.ret 20 8 s := rfl
@[simp] theorem exec_ret : exec .ret s = .next (s.ret.report 16) := rfl
@[simp] theorem exec_jpZNn (nn : Word) : exec (.jpZNn nn) s = branch .z (s.setPc nn) 16 12 s := rfl
@[simp] theorem exec_prefixCb : exec .prefixCb s =
    .next (s.afterFetch8.cbOperation (s.busRead s.cpu.pc)) := rfl
@[simp] theorem exec_callZNn (nn : Word) : exec (.callZNn nn) s = branch .z (s.call nn) 24 12 s := rfl
@[simp] theorem exec_callNn (nn : Word) : exec (.callNn nn) s = .next ((s.call nn).report 24) := rfl
@[simp] theorem exec_adcAN (n : Byte) : exec (.adcAN n) s = aluImmediate .adc n s := rfl
@[simp] theorem exec_rst08 : exec .rst08 s = .next ((s.call 0x08).report 16) := rfl
@[simp] theorem exec_retNc : exec .retNc s = branch .nc s.ret 20 8 s := rfl
@[simp] theorem exec_popDe : exec .popDe s = pop .de s := rfl
@[simp] theorem exec_jpNcNn (nn : Word) : exec (.jpNcNn nn) s = branch .nc (s.setPc nn) 16 12 s := rfl
@[simp] theorem exec_illegal (op : Byte) : exec (.illegal op) s = .fault (.illegalOpcode s.opAddr op) := rfl
@[simp] theorem exec_callNcNn (nn : Word) : exec (.callNcNn nn) s = branch .nc (s.call nn) 24 12 s := rfl
@[simp] theorem exec_pushDe : exec .pushDe s = push .de s := rfl
@[simp] theorem exec_subN (n : Byte) : exec (.subN n) s = aluImmediate .sub n s := rfl
@[simp] theorem exec_rst10 : exec .rst10 s = .next ((s.call 0x10).report 16) := rfl
@[simp] theorem exec_retC : exec .retC s = branch .c s.ret 20 8 s := rfl
@[simp] theorem exec_reti : exec .reti s = .next (s.returnFromInterrupt.report 16) := rfl
@[simp] theorem exec_jpCNn (nn : Word) : exec (.jpCNn nn) s = branch .c (s.setPc nn) 16 12 s := rfl
@[simp] theorem exec_callCNn (nn : Word) : exec (.callCNn nn) s = branch .c (s.call nn) 24 12 s := rfl
@[simp] theorem exec_sbcAN (n : Byte) : exec (.sbcAN n) s = aluImmediate .sbc n s := rfl
@[simp] theorem exec_rst18 : exec .rst18 s = .next ((s.call 0x18).report 16) := rfl
@[simp] theorem exec_ldhAtNA (n : Byte) : exec (.ldhAtNA n) s = storeTo (highPage n) (s.reg .a) 12 s := rfl
@[simp] theorem exec_popHl : exec .popHl s = pop .hl s := rfl
@[simp] theorem exec_ldhAtCA : exec .ldhAtCA s = storeTo (highPage s.cpu.c) (s.reg .a) 8 s := rfl
@[simp] theorem exec_pushHl : exec .pushHl s = push .hl s := rfl
@[simp] theorem exec_andN (n : Byte) : exec (.andN n) s = aluImmediate .and n s := rfl
@[simp] theorem exec_rst20 : exec .rst20 s = .next ((s.call 0x20).report 16) := rfl
@[simp] theorem exec_addSpE (e : Byte) : exec (.addSpE e) s =
    .next (((s.setSp (spPlus s.cpu.sp e).1).setFlags (spPlus s.cpu.sp e).2).report 16) := rfl
@[simp] theorem exec_jpHl : exec .jpHl s = .next ((s.setPc s.hl).report 4) := rfl
@[simp] theorem exec_ldAtNnA (nn : Word) : exec (.ldAtNnA nn) s = storeTo nn (s.reg .a) 16 s := rfl
@[simp] theorem exec_xorN (n : Byte) : exec (.xorN n) s = aluImmediate .xor n s := rfl
@[simp] theorem exec_rst28 : exec .rst28 s = .next ((s.call 0x28).report 16) := rfl
@[simp] theorem exec_ldhAAtN (n : Byte) : exec (.ldhAAtN n) s = loadFrom .a (highPage n) 12 s := rfl
@[simp] theorem exec_popAf : exec .popAf s = pop .af s := rfl
@[simp] theorem exec_ldhAAtC : exec .ldhAAtC s = loadFrom .a (highPage s.cpu.c) 8 s := rfl
@[simp] theorem exec_di : exec .di s = .next ((s.setIme false false).report 4) := rfl
@[simp] theorem exec_pushAf : exec .pushAf s = push .af s := rfl
@[simp] theorem exec_orN (n : Byte) : exec (.orN n) s = aluImmediate .or n s := rfl
@[simp] theorem exec_rst30 : exec .rst30 s = .next ((s.call 0x30).report 16) := rfl
@[simp] theorem exec_ldHlSpE (e : Byte) : exec (.ldHlSpE e) s =
    .next ((((s.setHl (spPlus s.cpu.sp e).1).setFlags (spPlus s.cpu.sp e).2)).report 12) := rfl
@[simp] theorem exec_ldSpHl : exec .ldSpHl s = .next ((s.setSp s.hl).report 8) := rfl
@[simp] theorem exec_ldAAtNn (nn : Word) : exec (.ldAAtNn nn) s = loadFrom .a nn 16 s := rfl
@[simp] theorem exec_ei : exec .ei s = .next (s.enableLater.report 4) := rfl
@[simp] theorem exec_cpN (n : Byte) : exec (.cpN n) s = aluImmediate .cp n s := rfl
@[simp] theorem exec_rst38 : exec .rst38 s = .next ((s.call 0x38).report 16) := rfl
@[simp] theorem exec_rlcB : exec .rlcB s = .next (s.rotated .rlc (.reg .b)) := rfl
@[simp] theorem exec_rlcC : exec .rlcC s = .next (s.rotated .rlc (.reg .c)) := rfl
@[simp] theorem exec_rlcD : exec .rlcD s = .next (s.rotated .rlc (.reg .d)) := rfl
@[simp] theorem exec_rlcE : exec .rlcE s = .next (s.rotated .rlc (.reg .e)) := rfl
@[simp] theorem exec_rlcH : exec .rlcH s = .next (s.rotated .rlc (.reg .h)) := rfl
@[simp] theorem exec_rlcL : exec .rlcL s = .next (s.rotated .rlc (.reg .l)) := rfl
@[simp] theorem exec_rlcAtHl : exec .rlcAtHl s = .next (s.rotated .rlc .atHl) := rfl
@[simp] theorem exec_rlcA : exec .rlcA s = .next (s.rotated .rlc (.reg .a)) := rfl
@[simp] theorem exec_rrcB : exec .rrcB s = .next (s.rotated .rrc (.reg .b)) := rfl
@[simp] theorem exec_rrcC : exec .rrcC s = .next (s.rotated .rrc (.reg .c)) := rfl
@[simp] theorem exec_rrcD : exec .rrcD s = .next (s.rotated .rrc (.reg .d)) := rfl
@[simp] theorem exec_rrcE : exec .rrcE s = .next (s.rotated .rrc (.reg .e)) := rfl
@[simp] theorem exec_rrcH : exec .rrcH s = .next (s.rotated .rrc (.reg .h)) := rfl
@[simp] theorem exec_rrcL : exec .rrcL s = .next (s.rotated .rrc (.reg .l)) := rfl
@[simp] theorem exec_rrcAtHl : exec .rrcAtHl s = .next (s.rotated .rrc .atHl) := rfl
@[simp] theorem exec_rrcA : exec .rrcA s = .next (s.rotated .rrc (.reg .a)) := rfl
@[simp] theorem exec_rlB : exec .rlB s = .next (s.rotated .rl (.reg .b)) := rfl
@[simp] theorem exec_rlC : exec .rlC s = .next (s.rotated .rl (.reg .c)) := rfl
@[simp] theorem exec_rlD : exec .rlD s = .next (s.rotated .rl (.reg .d)) := rfl
@[simp] theorem exec_rlE : exec .rlE s = .next (s.rotated .rl (.reg .e)) := rfl
@[simp] theorem exec_rlH : exec .rlH s = .next (s.rotated .rl (.reg .h)) := rfl
@[simp] theorem exec_rlL : exec .rlL s = .next (s.rotated .rl (.reg .l)) := rfl
@[simp] theorem exec_rlAtHl : exec .rlAtHl s = .next (s.rotated .rl .atHl) := rfl
@[simp] theorem exec_rlA : exec .rlA s = .next (s.rotated .rl (.reg .a)) := rfl
@[simp] theorem exec_rrB : exec .rrB s = .next (s.rotated .rr (.reg .b)) := rfl
@[simp] theorem exec_rrC : exec .rrC s = .next (s.rotated .rr (.reg .c)) := rfl
@[simp] theorem exec_rrD : exec .rrD s = .next (s.rotated .rr (.reg .d)) := rfl
@[simp] theorem exec_rrE : exec .rrE s = .next (s.rotated .rr (.reg .e)) := rfl
@[simp] theorem exec_rrH : exec .rrH s = .next (s.rotated .rr (.reg .h)) := rfl
@[simp] theorem exec_rrL : exec .rrL s = .next (s.rotated .rr (.reg .l)) := rfl
@[simp] theorem exec_rrAtHl : exec .rrAtHl s = .next (s.rotated .rr .atHl) := rfl
@[simp] theorem exec_rrA : exec .rrA s = .next (s.rotated .rr (.reg .a)) := rfl
@[simp] theorem exec_slaB : exec .slaB s = .next (s.rotated .sla (.reg .b)) := rfl
@[simp] theorem exec_slaC : exec .slaC s = .next (s.rotated .sla (.reg .c)) := rfl
@[simp] theorem exec_slaD : exec .slaD s = .next (s.rotated .sla (.reg .d)) := rfl
@[simp] theorem exec_slaE : exec .slaE s = .next (s.rotated .sla (.reg .e)) := rfl
@[simp] theorem exec_slaH : exec .slaH s = .next (s.rotated .sla (.reg .h)) := rfl
@[simp] theorem exec_slaL : exec .slaL s = .next (s.rotated .sla (.reg .l)) := rfl
@[simp] theorem exec_slaAtHl : exec .slaAtHl s = .next (s.rotated .sla .atHl) := rfl
@[simp] theorem exec_slaA : exec .slaA s = .next (s.rotated .sla (.reg .a)) := rfl
@[simp] theorem exec_sraB : exec .sraB s = .next (s.rotated .sra (.reg .b)) := rfl
@[simp] theorem exec_sraC : exec .sraC s = .next (s.rotated .sra (.reg .c)) := rfl
@[simp] theorem exec_sraD : exec .sraD s = .next (s.rotated .sra (.reg .d)) := rfl
@[simp] theorem exec_sraE : exec .sraE s = .next (s.rotated .sra (.reg .e)) := rfl
@[simp] theorem exec_sraH : exec .sraH s = .next (s.rotated .sra (.reg .h)) := rfl
@[simp] theorem exec_sraL : exec .sraL s = .next (s.rotated .sra (.reg .l)) := rfl
@[simp] theorem exec_sraAtHl : exec .sraAtHl s = .next (s.rotated .sra .atHl) := rfl
@[simp] theorem exec_sraA : exec .sraA s = .next (s.rotated .sra (.reg .a)) := rfl
@[simp] theorem exec_swapB : exec .swapB s = .next (s.rotated .swap (.reg .b)) := rfl
@[simp] theorem exec_swapC : exec .swapC s = .next (s.rotated .swap (.reg .c)) := rfl
@[simp] theorem exec_swapD : exec .swapD s = .next (s.rotated .swap (.reg .d)) := rfl
@[simp] theorem exec_swapE : exec .swapE s = .next (s.rotated .swap (.reg .e)) := rfl
@[simp] theorem exec_swapH : exec .swapH s = .next (s.rotated .swap (.reg .h)) := rfl
@[simp] theorem exec_swapL : exec .swapL s = .next (s.rotated .swap (.reg .l)) := rfl
@[simp] theorem exec_swapAtHl : exec .swapAtHl s = .next (s.rotated .swap .atHl) := rfl
@[simp] theorem exec_swapA : exec .swapA s = .next (s.rotated .swap (.reg .a)) := rfl
@[simp] theorem exec_srlB : exec .srlB s = .next (s.rotated .srl (.reg .b)) := rfl
@[simp] theorem exec_srlC : exec .srlC s = .next (s.rotated .srl (.reg .c)) := rfl
@[simp] theorem exec_srlD : exec .srlD s = .next (s.rotated .srl (.reg .d)) := rfl
@[simp] theorem exec_srlE : exec .srlE s = .next (s.rotated .srl (.reg .e)) := rfl
@[simp] theorem exec_srlH : exec .srlH s = .next (s.rotated .srl (.reg .h)) := rfl
@[simp] theorem exec_srlL : exec .srlL s = .next (s.rotated .srl (.reg .l)) := rfl
@[simp] theorem exec_srlAtHl : exec .srlAtHl s = .next (s.rotated .srl .atHl) := rfl
@[simp] theorem exec_srlA : exec .srlA s = .next (s.rotated .srl (.reg .a)) := rfl
@[simp] theorem exec_bitB (b : BitIndex) : exec (.bitB b) s = .next (s.bitTested b (.reg .b)) := rfl
@[simp] theorem exec_bitC (b : BitIndex) : exec (.bitC b) s = .next (s.bitTested b (.reg .c)) := rfl
@[simp] theorem exec_bitD (b : BitIndex) : exec (.bitD b) s = .next (s.bitTested b (.reg .d)) := rfl
@[simp] theorem exec_bitE (b : BitIndex) : exec (.bitE b) s = .next (s.bitTested b (.reg .e)) := rfl
@[simp] theorem exec_bitH (b : BitIndex) : exec (.bitH b) s = .next (s.bitTested b (.reg .h)) := rfl
@[simp] theorem exec_bitL (b : BitIndex) : exec (.bitL b) s = .next (s.bitTested b (.reg .l)) := rfl
@[simp] theorem exec_bitAtHl (b : BitIndex) : exec (.bitAtHl b) s = .next (s.bitTested b .atHl) := rfl
@[simp] theorem exec_bitA (b : BitIndex) : exec (.bitA b) s = .next (s.bitTested b (.reg .a)) := rfl
@[simp] theorem exec_resB (b : BitIndex) : exec (.resB b) s = .next (s.bitReset b (.reg .b)) := rfl
@[simp] theorem exec_resC (b : BitIndex) : exec (.resC b) s = .next (s.bitReset b (.reg .c)) := rfl
@[simp] theorem exec_resD (b : BitIndex) : exec (.resD b) s = .next (s.bitReset b (.reg .d)) := rfl
@[simp] theorem exec_resE (b : BitIndex) : exec (.resE b) s = .next (s.bitReset b (.reg .e)) := rfl
@[simp] theorem exec_resH (b : BitIndex) : exec (.resH b) s = .next (s.bitReset b (.reg .h)) := rfl
@[simp] theorem exec_resL (b : BitIndex) : exec (.resL b) s = .next (s.bitReset b (.reg .l)) := rfl
@[simp] theorem exec_resAtHl (b : BitIndex) : exec (.resAtHl b) s = .next (s.bitReset b .atHl) := rfl
@[simp] theorem exec_resA (b : BitIndex) : exec (.resA b) s = .next (s.bitReset b (.reg .a)) := rfl
@[simp] theorem exec_setB (b : BitIndex) : exec (.setB b) s = .next (s.bitSet b (.reg .b)) := rfl
@[simp] theorem exec_setC (b : BitIndex) : exec (.setC b) s = .next (s.bitSet b (.reg .c)) := rfl
@[simp] theorem exec_setD (b : BitIndex) : exec (.setD b) s = .next (s.bitSet b (.reg .d)) := rfl
@[simp] theorem exec_setE (b : BitIndex) : exec (.setE b) s = .next (s.bitSet b (.reg .e)) := rfl
@[simp] theorem exec_setH (b : BitIndex) : exec (.setH b) s = .next (s.bitSet b (.reg .h)) := rfl
@[simp] theorem exec_setL (b : BitIndex) : exec (.setL b) s = .next (s.bitSet b (.reg .l)) := rfl
@[simp] theorem exec_setAtHl (b : BitIndex) : exec (.setAtHl b) s = .next (s.bitSet b .atHl) := rfl
@[simp] theorem exec_setA (b : BitIndex) : exec (.setA b) s = .next (s.bitSet b (.reg .a)) := rfl

end Sys2Proof.Machine
end

