-- ==== Sys2Proof/Laws/MemInv.lean ====
section
/-! SUPPORT. Every memory operation of the bus keeps every memory in its canonical form and within its size. -/

namespace Sys2Proof.Machine

variable {s : State}

/-- An access of the window that reaches cartridge RAM stays inside it. -/
theorem cramTarget_lt {cfg : Config} {b off k : Nat} (h : cramTarget cfg b off = .cram k) : k < cfg.ramSize := by
  unfold cramTarget at h
  split at h
  · cases h
  · cases h; exact Nat.mod_lt _ (by omega)

theorem extTarget_lt {cfg : Config} {c : Cart} {off k : Nat} (h : extTarget cfg c off = .cram k) :
    k < cfg.ramSize := by
  unfold extTarget at h
  repeat' split at h
  all_goals first | exact cramTarget_lt h | cases h

/-- The offset an address of OAM has is inside the array; likewise for the other memories. -/
theorem regionOf_lt (a : Word) :
    (∀ k, regionOf a = .vram k → k < 0x2000) ∧ (∀ k, regionOf a = .wram k → k < 0x2000) ∧
    (∀ k, regionOf a = .oam k → k < 0xA0) ∧ (∀ k, regionOf a = .hram k → k < 0x7F) := by
  have hp (n k : Nat) : portRegion n ≠ .vram k ∧ portRegion n ≠ .wram k ∧ portRegion n ≠ .oam k ∧
      portRegion n ≠ .hram k := by
    unfold portRegion
    repeat' split
    all_goals simp
  unfold regionOf
  refine ⟨?_, ?_, ?_, ?_⟩ <;> intro k h <;> simp only at h
  all_goals
    split at h; · simp at h
    split at h; · simp at h <;> omega
    split at h; · simp at h
    split at h; · simp at h <;> omega
    split at h; · simp at h <;> omega
    split at h; · simp at h <;> omega
    split at h; · simp at h
    split at h; · simp [hp] at h
    split at h; · simp at h <;> omega
    simp at h

theorem State.copyToOam_oam (page : Byte) (n i : Nat) (s : State) (hi : i + n ≤ 0xA0)
    (h : s.oam.wf = true ∧ s.oam.below 0xA0 = true) :
    (State.copyToOam page n i s).oam.wf = true ∧ (State.copyToOam page n i s).oam.below 0xA0 = true := by
  induction n generalizing i s with
  | zero => exact h
  | succ n ih =>
    refine ih (i + 1) _ (by omega) ?_
    simp only [State.afterRead_oam]
    exact ⟨Memory.wf_write _ _ h.1, Memory.below_write _ (by omega) h.2⟩

/-- The canonical form is kept by every bus write. -/
theorem State.MemInv.busWrite (h : s.MemInv) (a : Word) (v : Byte) : (s.busWrite a v).MemInv := by
  obtain ⟨hc, hv, hw, ho, hh⟩ := h
  obtain ⟨lv, lw, lo, lh⟩ := regionOf_lt a
  unfold State.busWrite
  cases hr : regionOf a with
  | cartRom n =>
    simp only [State.controlWrite]
    cases s.cfg.kind <;> simp only
    · exact ⟨hc, hv, hw, ho, hh⟩
    · exact ⟨hc, hv, hw, ho, hh⟩
    · split
      · exact ⟨hc, hv, hw, ho, hh⟩
      · unfold State.latchClock; split <;> exact ⟨hc, hv, hw, ho, hh⟩
    · exact ⟨hc, hv, hw, ho, hh⟩
  | vram k => exact ⟨hc, ⟨Memory.wf_write _ _ hv.1, Memory.below_write _ (lv k hr) hv.2⟩, hw, ho, hh⟩
  | cartRam k =>
    simp only [State.writeExt]
    split
    · rename_i j hj
      exact ⟨⟨Memory.wf_write _ _ hc.1, Memory.below_write _ (extTarget_lt hj) hc.2⟩, hv, hw, ho, hh⟩
    · exact ⟨hc, hv, hw, ho, hh⟩
    · exact ⟨hc, hv, hw, ho, hh⟩
  | wram k => exact ⟨hc, hv, ⟨Memory.wf_write _ _ hw.1, Memory.below_write _ (lw k hr) hw.2⟩, ho, hh⟩
  | oam k => exact ⟨hc, hv, hw, ⟨Memory.wf_write _ _ ho.1, Memory.below_write _ (lo k hr) ho.2⟩, hh⟩
  | unmapped => exact ⟨hc, hv, hw, ho, hh⟩
  | port p =>
    cases p
    case dma =>
      have ho' := State.copyToOam_oam v 0xA0 0 { s with lcd := { s.lcd with dma := v } } (by omega) ho
      simp only [State.writePort, State.writeDma]
      rw [State.copyToOam_eq] at ho' ⊢
      exact ⟨hc, hv, hw, ho', hh⟩
    all_goals exact ⟨hc, hv, hw, ho, hh⟩
  | external => exact ⟨hc, hv, hw, ho, hh⟩
  | hram k => exact ⟨hc, hv, hw, ho, ⟨Memory.wf_write _ _ hh.1, Memory.below_write _ (lh k hr) hh.2⟩⟩
  | enable => exact ⟨hc, hv, hw, ho, hh⟩

/-- A read keeps it, since it changes no memory. -/
theorem State.MemInv.afterRead (h : s.MemInv) (a : Word) : (s.afterRead a).MemInv := by
  rw [State.afterRead_eq]
  exact ⟨h.cram, h.vram, h.wram, h.oam, h.hram⟩

/-- A poke of the loader keeps it. -/
theorem State.MemInv.poke (h : s.MemInv) (a : Word) (v : Byte) : (s.poke a v).MemInv := by
  obtain ⟨hc, hv, hw, ho, hh⟩ := h
  obtain ⟨lv, lw, lo, lh⟩ := regionOf_lt a
  unfold State.poke
  cases hr : regionOf a with
  | vram k => exact ⟨hc, ⟨Memory.wf_write _ _ hv.1, Memory.below_write _ (lv k hr) hv.2⟩, hw, ho, hh⟩
  | wram k => exact ⟨hc, hv, ⟨Memory.wf_write _ _ hw.1, Memory.below_write _ (lw k hr) hw.2⟩, ho, hh⟩
  | oam k => exact ⟨hc, hv, hw, ⟨Memory.wf_write _ _ ho.1, Memory.below_write _ (lo k hr) ho.2⟩, hh⟩
  | hram k => exact ⟨hc, hv, hw, ho, ⟨Memory.wf_write _ _ hh.1, Memory.below_write _ (lh k hr) hh.2⟩⟩
  | _ => exact ⟨hc, hv, hw, ho, hh⟩

end Sys2Proof.Machine
end

