-- ==== Sys2Proof/Laws/PerInstr.lean ====
section
/-! SUPPORT. Statements made instruction by instruction: the encoding of an instruction is an opcode byte and
as many bytes after it as the length of that byte says. -/

namespace Sys2Proof.Laws

/-- A well-formed instruction encodes to a first byte and the bytes that byte's length asks for; the bare
prefix, which no length covers, encodes to the byte 0xCB alone (log 13). -/
def EncodeLength.Statement (i : Instr) : Prop :=
  i.wellFormed = true →
    (i = .prefixCb ∧ encode i = [0xCB]) ∨
    ∃ op rest, encode i = op :: rest ∧ rest.length + 1 = instrLength op

/-- The eleven bytes of 30_encoding.md R114 are one byte long. -/
theorem length_illegal : ∀ op : Byte, illegalBytes.contains op = true → instrLength op = 1 := by decide

open EncodeLength

theorem EncodeLength.ldBN (n : Byte) : Statement (.ldBN n) := fun _ => .inr ⟨_, _, rfl, rfl⟩
theorem EncodeLength.ldCN (n : Byte) : Statement (.ldCN n) := fun _ => .inr ⟨_, _, rfl, rfl⟩
theorem EncodeLength.ldDN (n : Byte) : Statement (.ldDN n) := fun _ => .inr ⟨_, _, rfl, rfl⟩
theorem EncodeLength.ldEN (n : Byte) : Statement (.ldEN n) := fun _ => .inr ⟨_, _, rfl, rfl⟩
theorem EncodeLength.ldHN (n : Byte) : Statement (.ldHN n) := fun _ => .inr ⟨_, _, rfl, rfl⟩
theorem EncodeLength.ldLN (n : Byte) : Statement (.ldLN n) := fun _ => .inr ⟨_, _, rfl, rfl⟩
theorem EncodeLength.ldAtHlN (n : Byte) : Statement (.ldAtHlN n) := fun _ => .inr ⟨_, _, rfl, rfl⟩
theorem EncodeLength.ldAN (n : Byte) : Statement (.ldAN n) := fun _ => .inr ⟨_, _, rfl, rfl⟩
theorem EncodeLength.ldhAtNA (n : Byte) : Statement (.ldhAtNA n) := fun _ => .inr ⟨_, _, rfl, rfl⟩
theorem EncodeLength.ldAtNnA (nn : Word) : Statement (.ldAtNnA nn) := fun _ => .inr ⟨_, _, rfl, rfl⟩
theorem EncodeLength.ldhAAtN (n : Byte) : Statement (.ldhAAtN n) := fun _ => .inr ⟨_, _, rfl, rfl⟩
theorem EncodeLength.ldAAtNn (nn : Word) : Statement (.ldAAtNn nn) := fun _ => .inr ⟨_, _, rfl, rfl⟩
theorem EncodeLength.ldBcNn (nn : Word) : Statement (.ldBcNn nn) := fun _ => .inr ⟨_, _, rfl, rfl⟩
theorem EncodeLength.ldAtNnSp (nn : Word) : Statement (.ldAtNnSp nn) := fun _ => .inr ⟨_, _, rfl, rfl⟩
theorem EncodeLength.ldDeNn (nn : Word) : Statement (.ldDeNn nn) := fun _ => .inr ⟨_, _, rfl, rfl⟩
theorem EncodeLength.ldHlNn (nn : Word) : Statement (.ldHlNn nn) := fun _ => .inr ⟨_, _, rfl, rfl⟩
theorem EncodeLength.ldSpNn (nn : Word) : Statement (.ldSpNn nn) := fun _ => .inr ⟨_, _, rfl, rfl⟩
theorem EncodeLength.ldHlSpE (e : Byte) : Statement (.ldHlSpE e) := fun _ => .inr ⟨_, _, rfl, rfl⟩
theorem EncodeLength.addAN (n : Byte) : Statement (.addAN n) := fun _ => .inr ⟨_, _, rfl, rfl⟩
theorem EncodeLength.adcAN (n : Byte) : Statement (.adcAN n) := fun _ => .inr ⟨_, _, rfl, rfl⟩
theorem EncodeLength.subN (n : Byte) : Statement (.subN n) := fun _ => .inr ⟨_, _, rfl, rfl⟩
theorem EncodeLength.sbcAN (n : Byte) : Statement (.sbcAN n) := fun _ => .inr ⟨_, _, rfl, rfl⟩
theorem EncodeLength.andN (n : Byte) : Statement (.andN n) := fun _ => .inr ⟨_, _, rfl, rfl⟩
theorem EncodeLength.xorN (n : Byte) : Statement (.xorN n) := fun _ => .inr ⟨_, _, rfl, rfl⟩
theorem EncodeLength.orN (n : Byte) : Statement (.orN n) := fun _ => .inr ⟨_, _, rfl, rfl⟩
theorem EncodeLength.cpN (n : Byte) : Statement (.cpN n) := fun _ => .inr ⟨_, _, rfl, rfl⟩
theorem EncodeLength.addSpE (e : Byte) : Statement (.addSpE e) := fun _ => .inr ⟨_, _, rfl, rfl⟩
theorem EncodeLength.bitB (b : BitIndex) : Statement (.bitB b) := fun _ => .inr ⟨_, _, rfl, rfl⟩
theorem EncodeLength.bitC (b : BitIndex) : Statement (.bitC b) := fun _ => .inr ⟨_, _, rfl, rfl⟩
theorem EncodeLength.bitD (b : BitIndex) : Statement (.bitD b) := fun _ => .inr ⟨_, _, rfl, rfl⟩
theorem EncodeLength.bitE (b : BitIndex) : Statement (.bitE b) := fun _ => .inr ⟨_, _, rfl, rfl⟩
theorem EncodeLength.bitH (b : BitIndex) : Statement (.bitH b) := fun _ => .inr ⟨_, _, rfl, rfl⟩
theorem EncodeLength.bitL (b : BitIndex) : Statement (.bitL b) := fun _ => .inr ⟨_, _, rfl, rfl⟩
theorem EncodeLength.bitAtHl (b : BitIndex) : Statement (.bitAtHl b) := fun _ => .inr ⟨_, _, rfl, rfl⟩
theorem EncodeLength.bitA (b : BitIndex) : Statement (.bitA b) := fun _ => .inr ⟨_, _, rfl, rfl⟩
theorem EncodeLength.resB (b : BitIndex) : Statement (.resB b) := fun _ => .inr ⟨_, _, rfl, rfl⟩
theorem EncodeLength.resC (b : BitIndex) : Statement (.resC b) := fun _ => .inr ⟨_, _, rfl, rfl⟩
theorem EncodeLength.resD (b : BitIndex) : Statement (.resD b) := fun _ => .inr ⟨_, _, rfl, rfl⟩
theorem EncodeLength.resE (b : BitIndex) : Statement (.resE b) := fun _ => .inr ⟨_, _, rfl, rfl⟩
theorem EncodeLength.resH (b : BitIndex) : Statement (.resH b) := fun _ => .inr ⟨_, _, rfl, rfl⟩
theorem EncodeLength.resL (b : BitIndex) : Statement (.resL b) := fun _ => .inr ⟨_, _, rfl, rfl⟩
theorem EncodeLength.resAtHl (b : BitIndex) : Statement (.resAtHl b) := fun _ => .inr ⟨_, _, rfl, rfl⟩
theorem EncodeLength.resA (b : BitIndex) : Statement (.resA b) := fun _ => .inr ⟨_, _, rfl, rfl⟩
theorem EncodeLength.setB (b : BitIndex) : Statement (.setB b) := fun _ => .inr ⟨_, _, rfl, rfl⟩
theorem EncodeLength.setC (b : BitIndex) : Statement (.setC b) := fun _ => .inr ⟨_, _, rfl, rfl⟩
theorem EncodeLength.setD (b : BitIndex) : Statement (.setD b) := fun _ => .inr ⟨_, _, rfl, rfl⟩
theorem EncodeLength.setE (b : BitIndex) : Statement (.setE b) := fun _ => .inr ⟨_, _, rfl, rfl⟩
theorem EncodeLength.setH (b : BitIndex) : Statement (.setH b) := fun _ => .inr ⟨_, _, rfl, rfl⟩
theorem EncodeLength.setL (b : BitIndex) : Statement (.setL b) := fun _ => .inr ⟨_, _, rfl, rfl⟩
theorem EncodeLength.setAtHl (b : BitIndex) : Statement (.setAtHl b) := fun _ => .inr ⟨_, _, rfl, rfl⟩
theorem EncodeLength.setA (b : BitIndex) : Statement (.setA b) := fun _ => .inr ⟨_, _, rfl, rfl⟩
theorem EncodeLength.jrE (e : Byte) : Statement (.jrE e) := fun _ => .inr ⟨_, _, rfl, rfl⟩
theorem EncodeLength.jrNzE (e : Byte) : Statement (.jrNzE e) := fun _ => .inr ⟨_, _, rfl, rfl⟩
theorem EncodeLength.jrZE (e : Byte) : Statement (.jrZE e) := fun _ => .inr ⟨_, _, rfl, rfl⟩
theorem EncodeLength.jrNcE (e : Byte) : Statement (.jrNcE e) := fun _ => .inr ⟨_, _, rfl, rfl⟩
theorem EncodeLength.jrCE (e : Byte) : Statement (.jrCE e) := fun _ => .inr ⟨_, _, rfl, rfl⟩
theorem EncodeLength.jpNzNn (nn : Word) : Statement (.jpNzNn nn) := fun _ => .inr ⟨_, _, rfl, rfl⟩
theorem EncodeLength.jpNn (nn : Word) : Statement (.jpNn nn) := fun _ => .inr ⟨_, _, rfl, rfl⟩
theorem EncodeLength.callNzNn (nn : Word) : Statement (.callNzNn nn) := fun _ => .inr ⟨_, _, rfl, rfl⟩
theorem EncodeLength.jpZNn (nn : Word) : Statement (.jpZNn nn) := fun _ => .inr ⟨_, _, rfl, rfl⟩
theorem EncodeLength.callZNn (nn : Word) : Statement (.callZNn nn) := fun _ => .inr ⟨_, _, rfl, rfl⟩
theorem EncodeLength.callNn (nn : Word) : Statement (.callNn nn) := fun _ => .inr ⟨_, _, rfl, rfl⟩
theorem EncodeLength.jpNcNn (nn : Word) : Statement (.jpNcNn nn) := fun _ => .inr ⟨_, _, rfl, rfl⟩
theorem EncodeLength.callNcNn (nn : Word) : Statement (.callNcNn nn) := fun _ => .inr ⟨_, _, rfl, rfl⟩
theorem EncodeLength.jpCNn (nn : Word) : Statement (.jpCNn nn) := fun _ => .inr ⟨_, _, rfl, rfl⟩
theorem EncodeLength.callCNn (nn : Word) : Statement (.callCNn nn) := fun _ => .inr ⟨_, _, rfl, rfl⟩
theorem EncodeLength.stop (pad : Byte) : Statement (.stop pad) := fun _ => .inr ⟨_, _, rfl, rfl⟩
theorem EncodeLength.illegal (op : Byte) : Statement (.illegal op) :=
  fun h => .inr ⟨op, [], rfl, (length_illegal op h).symm⟩
theorem EncodeLength.ldAtBcA : Statement .ldAtBcA := fun _ => .inr ⟨_, _, rfl, rfl⟩
theorem EncodeLength.ldAAtBc : Statement .ldAAtBc := fun _ => .inr ⟨_, _, rfl, rfl⟩
theorem EncodeLength.ldAtDeA : Statement .ldAtDeA := fun _ => .inr ⟨_, _, rfl, rfl⟩
theorem EncodeLength.ldAAtDe : Statement .ldAAtDe := fun _ => .inr ⟨_, _, rfl, rfl⟩
theorem EncodeLength.ldAtHlIncA : Statement .ldAtHlIncA := fun _ => .inr ⟨_, _, rfl, rfl⟩
theorem EncodeLength.ldAAtHlInc : Statement .ldAAtHlInc := fun _ => .inr ⟨_, _, rfl, rfl⟩
theorem EncodeLength.ldAtHlDecA : Statement .ldAtHlDecA := fun _ => .inr ⟨_, _, rfl, rfl⟩
theorem EncodeLength.ldAAtHlDec : Statement .ldAAtHlDec := fun _ => .inr ⟨_, _, rfl, rfl⟩
theorem EncodeLength.ldBB : Statement .ldBB := fun _ => .inr ⟨_, _, rfl, rfl⟩
theorem EncodeLength.ldBC : Statement .ldBC := fun _ => .inr ⟨_, _, rfl, rfl⟩
theorem EncodeLength.ldBD : Statement .ldBD := fun _ => .inr ⟨_, _, rfl, rfl⟩
theorem EncodeLength.ldBE : Statement .ldBE := fun _ => .inr ⟨_, _, rfl, rfl⟩
theorem EncodeLength.ldBH : Statement .ldBH := fun _ => .inr ⟨_, _, rfl, rfl⟩
theorem EncodeLength.ldBL : Statement .ldBL := fun _ => .inr ⟨_, _, rfl, rfl⟩
theorem EncodeLength.ldBAtHl : Statement .ldBAtHl := fun _ => .inr ⟨_, _, rfl, rfl⟩
theorem EncodeLength.ldBA : Statement .ldBA := fun _ => .inr ⟨_, _, rfl, rfl⟩
theorem EncodeLength.ldCB : Statement .ldCB := fun _ => .inr ⟨_, _, rfl, rfl⟩
theorem EncodeLength.ldCC : Statement .ldCC := fun _ => .inr ⟨_, _, rfl, rfl⟩
theorem EncodeLength.ldCD : Statement .ldCD := fun _ => .inr ⟨_, _, rfl, rfl⟩
theorem EncodeLength.ldCE : Statement .ldCE := fun _ => .inr ⟨_, _, rfl, rfl⟩
theorem EncodeLength.ldCH : Statement .ldCH := fun _ => .inr ⟨_, _, rfl, rfl⟩
theorem EncodeLength.ldCL : Statement .ldCL := fun _ => .inr ⟨_, _, rfl, rfl⟩
theorem EncodeLength.ldCAtHl : Statement .ldCAtHl := fun _ => .inr ⟨_, _, rfl, rfl⟩
theorem EncodeLength.ldCA : Statement .ldCA := fun _ => .inr ⟨_, _, rfl, rfl⟩
theorem EncodeLength.ldDB : Statement .ldDB := fun _ => .inr ⟨_, _, rfl, rfl⟩
theorem EncodeLength.ldDC : Statement .ldDC := fun _ => .inr ⟨_, _, rfl, rfl⟩
theorem EncodeLength.ldDD : Statement .ldDD := fun _ => .inr ⟨_, _, rfl, rfl⟩
theorem EncodeLength.ldDE : Statement .ldDE := fun _ => .inr ⟨_, _, rfl, rfl⟩
theorem EncodeLength.ldDH : Statement .ldDH := fun _ => .inr ⟨_, _, rfl, rfl⟩
theorem EncodeLength.ldDL : Statement .ldDL := fun _ => .inr ⟨_, _, rfl, rfl⟩
theorem EncodeLength.ldDAtHl : Statement .ldDAtHl := fun _ => .inr ⟨_, _, rfl, rfl⟩
theorem EncodeLength.ldDA : Statement .ldDA := fun _ => .inr ⟨_, _, rfl, rfl⟩
theorem EncodeLength.ldEB : Statement .ldEB := fun _ => .inr ⟨_, _, rfl, rfl⟩
theorem EncodeLength.ldEC : Statement .ldEC := fun _ => .inr ⟨_, _, rfl, rfl⟩
theorem EncodeLength.ldED : Statement .ldED := fun _ => .inr ⟨_, _, rfl, rfl⟩
theorem EncodeLength.ldEE : Statement .ldEE := fun _ => .inr ⟨_, _, rfl, rfl⟩
theorem EncodeLength.ldEH : Statement .ldEH := fun _ => .inr ⟨_, _, rfl, rfl⟩
theorem EncodeLength.ldEL : Statement .ldEL := fun _ => .inr ⟨_, _, rfl, rfl⟩
theorem EncodeLength.ldEAtHl : Statement .ldEAtHl := fun _ => .inr ⟨_, _, rfl, rfl⟩
theorem EncodeLength.ldEA : Statement .ldEA := fun _ => .inr ⟨_, _, rfl, rfl⟩
theorem EncodeLength.ldHB : Statement .ldHB := fun _ => .inr ⟨_, _, rfl, rfl⟩
theorem EncodeLength.ldHC : Statement .ldHC := fun _ => .inr ⟨_, _, rfl, rfl⟩
theorem EncodeLength.ldHD : Statement .ldHD := fun _ => .inr ⟨_, _, rfl, rfl⟩
theorem EncodeLength.ldHE : Statement .ldHE := fun _ => .inr ⟨_, _, rfl, rfl⟩
theorem EncodeLength.ldHH : Statement .ldHH := fun _ => .inr ⟨_, _, rfl, rfl⟩
theorem EncodeLength.ldHL : Statement .ldHL := fun _ => .inr ⟨_, _, rfl, rfl⟩
theorem EncodeLength.ldHAtHl : Statement .ldHAtHl := fun _ => .inr ⟨_, _, rfl, rfl⟩
theorem EncodeLength.ldHA : Statement .ldHA := fun _ => .inr ⟨_, _, rfl, rfl⟩
theorem EncodeLength.ldLB : Statement .ldLB := fun _ => .inr ⟨_, _, rfl, rfl⟩
theorem EncodeLength.ldLC : Statement .ldLC := fun _ => .inr ⟨_, _, rfl, rfl⟩
theorem EncodeLength.ldLD : Statement .ldLD := fun _ => .inr ⟨_, _, rfl, rfl⟩
theorem EncodeLength.ldLE : Statement .ldLE := fun _ => .inr ⟨_, _, rfl, rfl⟩
theorem EncodeLength.ldLH : Statement .ldLH := fun _ => .inr ⟨_, _, rfl, rfl⟩
theorem EncodeLength.ldLL : Statement .ldLL := fun _ => .inr ⟨_, _, rfl, rfl⟩
theorem EncodeLength.ldLAtHl : Statement .ldLAtHl := fun _ => .inr ⟨_, _, rfl, rfl⟩
theorem EncodeLength.ldLA : Statement .ldLA := fun _ => .inr ⟨_, _, rfl, rfl⟩
theorem EncodeLength.ldAtHlB : Statement .ldAtHlB := fun _ => .inr ⟨_, _, rfl, rfl⟩
theorem EncodeLength.ldAtHlC : Statement .ldAtHlC := fun _ => .inr ⟨_, _, rfl, rfl⟩
theorem EncodeLength.ldAtHlD : Statement .ldAtHlD := fun _ => .inr ⟨_, _, rfl, rfl⟩
theorem EncodeLength.ldAtHlE : Statement .ldAtHlE := fun _ => .inr ⟨_, _, rfl, rfl⟩
theorem EncodeLength.ldAtHlH : Statement .ldAtHlH := fun _ => .inr ⟨_, _, rfl, rfl⟩
theorem EncodeLength.ldAtHlL : Statement .ldAtHlL := fun _ => .inr ⟨_, _, rfl, rfl⟩
theorem EncodeLength.ldAtHlA : Statement .ldAtHlA := fun _ => .inr ⟨_, _, rfl, rfl⟩
theorem EncodeLength.ldAB : Statement .ldAB := fun _ => .inr ⟨_, _, rfl, rfl⟩
theorem EncodeLength.ldAC : Statement .ldAC := fun _ => .inr ⟨_, _, rfl, rfl⟩
theorem EncodeLength.ldAD : Statement .ldAD := fun _ => .inr ⟨_, _, rfl, rfl⟩
theorem EncodeLength.ldAE : Statement .ldAE := fun _ => .inr ⟨_, _, rfl, rfl⟩
theorem EncodeLength.ldAH : Statement .ldAH := fun _ => .inr ⟨_, _, rfl, rfl⟩
theorem EncodeLength.ldAL : Statement .ldAL := fun _ => .inr ⟨_, _, rfl, rfl⟩
theorem EncodeLength.ldAAtHl : Statement .ldAAtHl := fun _ => .inr ⟨_, _, rfl, rfl⟩
theorem EncodeLength.ldAA : Statement .ldAA := fun _ => .inr ⟨_, _, rfl, rfl⟩
theorem EncodeLength.ldhAtCA : Statement .ldhAtCA := fun _ => .inr ⟨_, _, rfl, rfl⟩
theorem EncodeLength.ldhAAtC : Statement .ldhAAtC := fun _ => .inr ⟨_, _, rfl, rfl⟩
theorem EncodeLength.popBc : Statement .popBc := fun _ => .inr ⟨_, _, rfl, rfl⟩
theorem EncodeLength.pushBc : Statement .pushBc := fun _ => .inr ⟨_, _, rfl, rfl⟩
theorem EncodeLength.popDe : Statement .popDe := fun _ => .inr ⟨_, _, rfl, rfl⟩
theorem EncodeLength.pushDe : Statement .pushDe := fun _ => .inr ⟨_, _, rfl, rfl⟩
theorem EncodeLength.popHl : Statement .popHl := fun _ => .inr ⟨_, _, rfl, rfl⟩
theorem EncodeLength.pushHl : Statement .pushHl := fun _ => .inr ⟨_, _, rfl, rfl⟩
theorem EncodeLength.popAf : Statement .popAf := fun _ => .inr ⟨_, _, rfl, rfl⟩
theorem EncodeLength.pushAf : Statement .pushAf := fun _ => .inr ⟨_, _, rfl, rfl⟩
theorem EncodeLength.ldSpHl : Statement .ldSpHl := fun _ => .inr ⟨_, _, rfl, rfl⟩
theorem EncodeLength.incB : Statement .incB := fun _ => .inr ⟨_, _, rfl, rfl⟩
theorem EncodeLength.decB : Statement .decB := fun _ => .inr ⟨_, _, rfl, rfl⟩
theorem EncodeLength.incC : Statement .incC := fun _ => .inr ⟨_, _, rfl, rfl⟩
theorem EncodeLength.decC : Statement .decC := fun _ => .inr ⟨_, _, rfl, rfl⟩
theorem EncodeLength.incD : Statement .incD := fun _ => .inr ⟨_, _, rfl, rfl⟩
theorem EncodeLength.decD : Statement .decD := fun _ => .inr ⟨_, _, rfl, rfl⟩
theorem EncodeLength.incE : Statement .incE := fun _ => .inr ⟨_, _, rfl, rfl⟩
theorem EncodeLength.decE : Statement .decE := fun _ => .inr ⟨_, _, rfl, rfl⟩
theorem EncodeLength.incH : Statement .incH := fun _ => .inr ⟨_, _, rfl, rfl⟩
theorem EncodeLength.decH : Statement .decH := fun _ => .inr ⟨_, _, rfl, rfl⟩
theorem EncodeLength.daa : Statement .daa := fun _ => .inr ⟨_, _, rfl, rfl⟩
theorem EncodeLength.incL : Statement .incL := fun _ => .inr ⟨_, _, rfl, rfl⟩
theorem EncodeLength.decL : Statement .decL := fun _ => .inr ⟨_, _, rfl, rfl⟩
theorem EncodeLength.cpl : Statement .cpl := fun _ => .inr ⟨_, _, rfl, rfl⟩
theorem EncodeLength.incAtHl : Statement .incAtHl := fun _ => .inr ⟨_, _, rfl, rfl⟩
theorem EncodeLength.decAtHl : Statement .decAtHl := fun _ => .inr ⟨_, _, rfl, rfl⟩
theorem EncodeLength.scf : Statement .scf := fun _ => .inr ⟨_, _, rfl, rfl⟩
theorem EncodeLength.incA : Statement .incA := fun _ => .inr ⟨_, _, rfl, rfl⟩
theorem EncodeLength.decA : Statement .decA := fun _ => .inr ⟨_, _, rfl, rfl⟩
theorem EncodeLength.ccf : Statement .ccf := fun _ => .inr ⟨_, _, rfl, rfl⟩
theorem EncodeLength.addAB : Statement .addAB := fun _ => .inr ⟨_, _, rfl, rfl⟩
theorem EncodeLength.addAC : Statement .addAC := fun _ => .inr ⟨_, _, rfl, rfl⟩
theorem EncodeLength.addAD : Statement .addAD := fun _ => .inr ⟨_, _, rfl, rfl⟩
theorem EncodeLength.addAE : Statement .addAE := fun _ => .inr ⟨_, _, rfl, rfl⟩
theorem EncodeLength.addAH : Statement .addAH := fun _ => .inr ⟨_, _, rfl, rfl⟩
theorem EncodeLength.addAL : Statement .addAL := fun _ => .inr ⟨_, _, rfl, rfl⟩
theorem EncodeLength.addAAtHl : Statement .addAAtHl := fun _ => .inr ⟨_, _, rfl, rfl⟩
theorem EncodeLength.addAA : Statement .addAA := fun _ => .inr ⟨_, _, rfl, rfl⟩
theorem EncodeLength.adcAB : Statement .adcAB := fun _ => .inr ⟨_, _, rfl, rfl⟩
theorem EncodeLength.adcAC : Statement .adcAC := fun _ => .inr ⟨_, _, rfl, rfl⟩
theorem EncodeLength.adcAD : Statement .adcAD := fun _ => .inr ⟨_, _, rfl, rfl⟩
theorem EncodeLength.adcAE : Statement .adcAE := fun _ => .inr ⟨_, _, rfl, rfl⟩
theorem EncodeLength.adcAH : Statement .adcAH := fun _ => .inr ⟨_, _, rfl, rfl⟩
theorem EncodeLength.adcAL : Statement .adcAL := fun _ => .inr ⟨_, _, rfl, rfl⟩
theorem EncodeLength.adcAAtHl : Statement .adcAAtHl := fun _ => .inr ⟨_, _, rfl, rfl⟩
theorem EncodeLength.adcAA : Statement .adcAA := fun _ => .inr ⟨_, _, rfl, rfl⟩
theorem EncodeLength.subB : Statement .subB := fun _ => .inr ⟨_, _, rfl, rfl⟩
theorem EncodeLength.subC : Statement .subC := fun _ => .inr ⟨_, _, rfl, rfl⟩
theorem EncodeLength.subD : Statement .subD := fun _ => .inr ⟨_, _, rfl, rfl⟩
theorem EncodeLength.subE : Statement .subE := fun _ => .inr ⟨_, _, rfl, rfl⟩
theorem EncodeLength.subH : Statement .subH := fun _ => .inr ⟨_, _, rfl, rfl⟩
theorem EncodeLength.subL : Statement .subL := fun _ => .inr ⟨_, _, rfl, rfl⟩
theorem EncodeLength.subAtHl : Statement .subAtHl := fun _ => .inr ⟨_, _, rfl, rfl⟩
theorem EncodeLength.subA : Statement .subA := fun _ => .inr ⟨_, _, rfl, rfl⟩
theorem EncodeLength.sbcAB : Statement .sbcAB := fun _ => .inr ⟨_, _, rfl, rfl⟩
theorem EncodeLength.sbcAC : Statement .sbcAC := fun _ => .inr ⟨_, _, rfl, rfl⟩
theorem EncodeLength.sbcAD : Statement .sbcAD := fun _ => .inr ⟨_, _, rfl, rfl⟩
theorem EncodeLength.sbcAE : Statement .sbcAE := fun _ => .inr ⟨_, _, rfl, rfl⟩
theorem EncodeLength.sbcAH : Statement .sbcAH := fun _ => .inr ⟨_, _, rfl, rfl⟩
theorem EncodeLength.sbcAL : Statement .sbcAL := fun _ => .inr ⟨_, _, rfl, rfl⟩
theorem EncodeLength.sbcAAtHl : Statement .sbcAAtHl := fun _ => .inr ⟨_, _, rfl, rfl⟩
theorem EncodeLength.sbcAA : Statement .sbcAA := fun _ => .inr ⟨_, _, rfl, rfl⟩
theorem EncodeLength.andB : Statement .andB := fun _ => .inr ⟨_, _, rfl, rfl⟩
theorem EncodeLength.andC : Statement .andC := fun _ => .inr ⟨_, _, rfl, rfl⟩
theorem EncodeLength.andD : Statement .andD := fun _ => .inr ⟨_, _, rfl, rfl⟩
theorem EncodeLength.andE : Statement .andE := fun _ => .inr ⟨_, _, rfl, rfl⟩
theorem EncodeLength.andH : Statement .andH := fun _ => .inr ⟨_, _, rfl, rfl⟩
theorem EncodeLength.andL : Statement .andL := fun _ => .inr ⟨_, _, rfl, rfl⟩
theorem EncodeLength.andAtHl : Statement .andAtHl := fun _ => .inr ⟨_, _, rfl, rfl⟩
theorem EncodeLength.andA : Statement .andA := fun _ => .inr ⟨_, _, rfl, rfl⟩
theorem EncodeLength.xorB : Statement .xorB := fun _ => .inr ⟨_, _, rfl, rfl⟩
theorem EncodeLength.xorC : Statement .xorC := fun _ => .inr ⟨_, _, rfl, rfl⟩
theorem EncodeLength.xorD : Statement .xorD := fun _ => .inr ⟨_, _, rfl, rfl⟩
theorem EncodeLength.xorE : Statement .xorE := fun _ => .inr ⟨_, _, rfl, rfl⟩
theorem EncodeLength.xorH : Statement .xorH := fun _ => .inr ⟨_, _, rfl, rfl⟩
theorem EncodeLength.xorL : Statement .xorL := fun _ => .inr ⟨_, _, rfl, rfl⟩
theorem EncodeLength.xorAtHl : Statement .xorAtHl := fun _ => .inr ⟨_, _, rfl, rfl⟩
theorem EncodeLength.xorA : Statement .xorA := fun _ => .inr ⟨_, _, rfl, rfl⟩
theorem EncodeLength.orB : Statement .orB := fun _ => .inr ⟨_, _, rfl, rfl⟩
theorem EncodeLength.orC : Statement .orC := fun _ => .inr ⟨_, _, rfl, rfl⟩
theorem EncodeLength.orD : Statement .orD := fun _ => .inr ⟨_, _, rfl, rfl⟩
theorem EncodeLength.orE : Statement .orE := fun _ => .inr ⟨_, _, rfl, rfl⟩
theorem EncodeLength.orH : Statement .orH := fun _ => .inr ⟨_, _, rfl, rfl⟩
theorem EncodeLength.orL : Statement .orL := fun _ => .inr ⟨_, _, rfl, rfl⟩
theorem EncodeLength.orAtHl : Statement .orAtHl := fun _ => .inr ⟨_, _, rfl, rfl⟩
theorem EncodeLength.orA : Statement .orA := fun _ => .inr ⟨_, _, rfl, rfl⟩
theorem EncodeLength.cpB : Statement .cpB := fun _ => .inr ⟨_, _, rfl, rfl⟩
theorem EncodeLength.cpC : Statement .cpC := fun _ => .inr ⟨_, _, rfl, rfl⟩
theorem EncodeLength.cpD : Statement .cpD := fun _ => .inr ⟨_, _, rfl, rfl⟩
theorem EncodeLength.cpE : Statement .cpE := fun _ => .inr ⟨_, _, rfl, rfl⟩
theorem EncodeLength.cpH : Statement .cpH := fun _ => .inr ⟨_, _, rfl, rfl⟩
theorem EncodeLength.cpL : Statement .cpL := fun _ => .inr ⟨_, _, rfl, rfl⟩
theorem EncodeLength.cpAtHl : Statement .cpAtHl := fun _ => .inr ⟨_, _, rfl, rfl⟩
theorem EncodeLength.cpA : Statement .cpA := fun _ => .inr ⟨_, _, rfl, rfl⟩
theorem EncodeLength.incBc : Statement .incBc := fun _ => .inr ⟨_, _, rfl, rfl⟩
theorem EncodeLength.addHlBc : Statement .addHlBc := fun _ => .inr ⟨_, _, rfl, rfl⟩
theorem EncodeLength.decBc : Statement .decBc := fun _ => .inr ⟨_, _, rfl, rfl⟩
theorem EncodeLength.incDe : Statement .incDe := fun _ => .inr ⟨_, _, rfl, rfl⟩
theorem EncodeLength.addHlDe : Statement .addHlDe := fun _ => .inr ⟨_, _, rfl, rfl⟩
theorem EncodeLength.decDe : Statement .decDe := fun _ => .inr ⟨_, _, rfl, rfl⟩
theorem EncodeLength.incHl : Statement .incHl := fun _ => .inr ⟨_, _, rfl, rfl⟩
theorem EncodeLength.addHlHl : Statement .addHlHl := fun _ => .inr ⟨_, _, rfl, rfl⟩
theorem EncodeLength.decHl : Statement .decHl := fun _ => .inr ⟨_, _, rfl, rfl⟩
theorem EncodeLength.incSp : Statement .incSp := fun _ => .inr ⟨_, _, rfl, rfl⟩
theorem EncodeLength.addHlSp : Statement .addHlSp := fun _ => .inr ⟨_, _, rfl, rfl⟩
theorem EncodeLength.decSp : Statement .decSp := fun _ => .inr ⟨_, _, rfl, rfl⟩
theorem EncodeLength.rlca : Statement .rlca := fun _ => .inr ⟨_, _, rfl, rfl⟩
theorem EncodeLength.rrca : Statement .rrca := fun _ => .inr ⟨_, _, rfl, rfl⟩
theorem EncodeLength.rla : Statement .rla := fun _ => .inr ⟨_, _, rfl, rfl⟩
theorem EncodeLength.rra : Statement .rra := fun _ => .inr ⟨_, _, rfl, rfl⟩
theorem EncodeLength.rlcB : Statement .rlcB := fun _ => .inr ⟨_, _, rfl, rfl⟩
theorem EncodeLength.rlcC : Statement .rlcC := fun _ => .inr ⟨_, _, rfl, rfl⟩
theorem EncodeLength.rlcD : Statement .rlcD := fun _ => .inr ⟨_, _, rfl, rfl⟩
theorem EncodeLength.rlcE : Statement .rlcE := fun _ => .inr ⟨_, _, rfl, rfl⟩
theorem EncodeLength.rlcH : Statement .rlcH := fun _ => .inr ⟨_, _, rfl, rfl⟩
theorem EncodeLength.rlcL : Statement .rlcL := fun _ => .inr ⟨_, _, rfl, rfl⟩
theorem EncodeLength.rlcAtHl : Statement .rlcAtHl := fun _ => .inr ⟨_, _, rfl, rfl⟩
theorem EncodeLength.rlcA : Statement .rlcA := fun _ => .inr ⟨_, _, rfl, rfl⟩
theorem EncodeLength.rrcB : Statement .rrcB := fun _ => .inr ⟨_, _, rfl, rfl⟩
theorem EncodeLength.rrcC : Statement .rrcC := fun _ => .inr ⟨_, _, rfl, rfl⟩
theorem EncodeLength.rrcD : Statement .rrcD := fun _ => .inr ⟨_, _, rfl, rfl⟩
theorem EncodeLength.rrcE : Statement .rrcE := fun _ => .inr ⟨_, _, rfl, rfl⟩
theorem EncodeLength.rrcH : Statement .rrcH := fun _ => .inr ⟨_, _, rfl, rfl⟩
theorem EncodeLength.rrcL : Statement .rrcL := fun _ => .inr ⟨_, _, rfl, rfl⟩
theorem EncodeLength.rrcAtHl : Statement .rrcAtHl := fun _ => .inr ⟨_, _, rfl, rfl⟩
theorem EncodeLength.rrcA : Statement .rrcA := fun _ => .inr ⟨_, _, rfl, rfl⟩
theorem EncodeLength.rlB : Statement .rlB := fun _ => .inr ⟨_, _, rfl, rfl⟩
theorem EncodeLength.rlC : Statement .rlC := fun _ => .inr ⟨_, _, rfl, rfl⟩
theorem EncodeLength.rlD : Statement .rlD := fun _ => .inr ⟨_, _, rfl, rfl⟩
theorem EncodeLength.rlE : Statement .rlE := fun _ => .inr ⟨_, _, rfl, rfl⟩
theorem EncodeLength.rlH : Statement .rlH := fun _ => .inr ⟨_, _, rfl, rfl⟩
theorem EncodeLength.rlL : Statement .rlL := fun _ => .inr ⟨_, _, rfl, rfl⟩
theorem EncodeLength.rlAtHl : Statement .rlAtHl := fun _ => .inr ⟨_, _, rfl, rfl⟩
theorem EncodeLength.rlA : Statement .rlA := fun _ => .inr ⟨_, _, rfl, rfl⟩
theorem EncodeLength.rrB : Statement .rrB := fun _ => .inr ⟨_, _, rfl, rfl⟩
theorem EncodeLength.rrC : Statement .rrC := fun _ => .inr ⟨_, _, rfl, rfl⟩
theorem EncodeLength.rrD : Statement .rrD := fun _ => .inr ⟨_, _, rfl, rfl⟩
theorem EncodeLength.rrE : Statement .rrE := fun _ => .inr ⟨_, _, rfl, rfl⟩
theorem EncodeLength.rrH : Statement .rrH := fun _ => .inr ⟨_, _, rfl, rfl⟩
theorem EncodeLength.rrL : Statement .rrL := fun _ => .inr ⟨_, _, rfl, rfl⟩
theorem EncodeLength.rrAtHl : Statement .rrAtHl := fun _ => .inr ⟨_, _, rfl, rfl⟩
theorem EncodeLength.rrA : Statement .rrA := fun _ => .inr ⟨_, _, rfl, rfl⟩
theorem EncodeLength.slaB : Statement .slaB := fun _ => .inr ⟨_, _, rfl, rfl⟩
theorem EncodeLength.slaC : Statement .slaC := fun _ => .inr ⟨_, _, rfl, rfl⟩
theorem EncodeLength.slaD : Statement .slaD := fun _ => .inr ⟨_, _, rfl, rfl⟩
theorem EncodeLength.slaE : Statement .slaE := fun _ => .inr ⟨_, _, rfl, rfl⟩
theorem EncodeLength.slaH : Statement .slaH := fun _ => .inr ⟨_, _, rfl, rfl⟩
theorem EncodeLength.slaL : Statement .slaL := fun _ => .inr ⟨_, _, rfl, rfl⟩
theorem EncodeLength.slaAtHl : Statement .slaAtHl := fun _ => .inr ⟨_, _, rfl, rfl⟩
theorem EncodeLength.slaA : Statement .slaA := fun _ => .inr ⟨_, _, rfl, rfl⟩
theorem EncodeLength.sraB : Statement .sraB := fun _ => .inr ⟨_, _, rfl, rfl⟩
theorem EncodeLength.sraC : Statement .sraC := fun _ => .inr ⟨_, _, rfl, rfl⟩
theorem EncodeLength.sraD : Statement .sraD := fun _ => .inr ⟨_, _, rfl, rfl⟩
theorem EncodeLength.sraE : Statement .sraE := fun _ => .inr ⟨_, _, rfl, rfl⟩
theorem EncodeLength.sraH : Statement .sraH := fun _ => .inr ⟨_, _, rfl, rfl⟩
theorem EncodeLength.sraL : Statement .sraL := fun _ => .inr ⟨_, _, rfl, rfl⟩
theorem EncodeLength.sraAtHl : Statement .sraAtHl := fun _ => .inr ⟨_, _, rfl, rfl⟩
theorem EncodeLength.sraA : Statement .sraA := fun _ => .inr ⟨_, _, rfl, rfl⟩
theorem EncodeLength.swapB : Statement .swapB := fun _ => .inr ⟨_, _, rfl, rfl⟩
theorem EncodeLength.swapC : Statement .swapC := fun _ => .inr ⟨_, _, rfl, rfl⟩
theorem EncodeLength.swapD : Statement .swapD := fun _ => .inr ⟨_, _, rfl, rfl⟩
theorem EncodeLength.swapE : Statement .swapE := fun _ => .inr ⟨_, _, rfl, rfl⟩
theorem EncodeLength.swapH : Statement .swapH := fun _ => .inr ⟨_, _, rfl, rfl⟩
theorem EncodeLength.swapL : Statement .swapL := fun _ => .inr ⟨_, _, rfl, rfl⟩
theorem EncodeLength.swapAtHl : Statement .swapAtHl := fun _ => .inr ⟨_, _, rfl, rfl⟩
theorem EncodeLength.swapA : Statement .swapA := fun _ => .inr ⟨_, _, rfl, rfl⟩
theorem EncodeLength.srlB : Statement .srlB := fun _ => .inr ⟨_, _, rfl, rfl⟩
theorem EncodeLength.srlC : Statement .srlC := fun _ => .inr ⟨_, _, rfl, rfl⟩
theorem EncodeLength.srlD : Statement .srlD := fun _ => .inr ⟨_, _, rfl, rfl⟩
theorem EncodeLength.srlE : Statement .srlE := fun _ => .inr ⟨_, _, rfl, rfl⟩
theorem EncodeLength.srlH : Statement .srlH := fun _ => .inr ⟨_, _, rfl, rfl⟩
theorem EncodeLength.srlL : Statement .srlL := fun _ => .inr ⟨_, _, rfl, rfl⟩
theorem EncodeLength.srlAtHl : Statement .srlAtHl := fun _ => .inr ⟨_, _, rfl, rfl⟩
theorem EncodeLength.srlA : Statement .srlA := fun _ => .inr ⟨_, _, rfl, rfl⟩
theorem EncodeLength.prefixCb : Statement .prefixCb := fun _ => .inl ⟨rfl, rfl⟩
theorem EncodeLength.retNz : Statement .retNz := fun _ => .inr ⟨_, _, rfl, rfl⟩
theorem EncodeLength.rst00 : Statement .rst00 := fun _ => .inr ⟨_, _, rfl, rfl⟩
theorem EncodeLength.retZ : Statement .retZ := fun _ => .inr ⟨_, _, rfl, rfl⟩
theorem EncodeLength.ret : Statement .ret := fun _ => .inr ⟨_, _, rfl, rfl⟩
theorem EncodeLength.rst08 : Statement .rst08 := fun _ => .inr ⟨_, _, rfl, rfl⟩
theorem EncodeLength.retNc : Statement .retNc := fun _ => .inr ⟨_, _, rfl, rfl⟩
theorem EncodeLength.rst10 : Statement .rst10 := fun _ => .inr ⟨_, _, rfl, rfl⟩
theorem EncodeLength.retC : Statement .retC := fun _ => .inr ⟨_, _, rfl, rfl⟩
theorem EncodeLength.reti : Statement .reti := fun _ => .inr ⟨_, _, rfl, rfl⟩
theorem EncodeLength.rst18 : Statement .rst18 := fun _ => .inr ⟨_, _, rfl, rfl⟩
theorem EncodeLength.rst20 : Statement .rst20 := fun _ => .inr ⟨_, _, rfl, rfl⟩
theorem EncodeLength.jpHl : Statement .jpHl := fun _ => .inr ⟨_, _, rfl, rfl⟩
theorem EncodeLength.rst28 : Statement .rst28 := fun _ => .inr ⟨_, _, rfl, rfl⟩
theorem EncodeLength.rst30 : Statement .rst30 := fun _ => .inr ⟨_, _, rfl, rfl⟩
theorem EncodeLength.rst38 : Statement .rst38 := fun _ => .inr ⟨_, _, rfl, rfl⟩
theorem EncodeLength.nop : Statement .nop := fun _ => .inr ⟨_, _, rfl, rfl⟩
theorem EncodeLength.halt : Statement .halt := fun _ => .inr ⟨_, _, rfl, rfl⟩
theorem EncodeLength.di : Statement .di := fun _ => .inr ⟨_, _, rfl, rfl⟩
theorem EncodeLength.ei : Statement .ei := fun _ => .inr ⟨_, _, rfl, rfl⟩

end Sys2Proof.Laws
end

