-- ==== Sys2Proof/Laws/Step.lean ====
section
/-! SUPPORT. What fetching, the CPU phase, a batch of ticks and a step can do, said once. -/

namespace Sys2Proof.Machine

variable (s : State)

/-! ## Fetching a byte -/

/-- A fetch changes PC or the latch, and an answer of an outside device if PC is at its port. -/
theorem State.afterFetch8_eq :
    s.afterFetch8 = { s.afterRead s.cpu.pc with
      cpu := { s.cpu with
        pc := if s.cpu.haltbugLatch then s.cpu.pc else s.cpu.pc + 1
        haltbugLatch := false } } := by
  unfold State.afterFetch8
  by_cases h : s.cpu.haltbugLatch
  · simp only [h, if_true, State.setLatch, State.afterRead_cpu]
  · simp only [h, Bool.false_eq_true, if_false, State.setPc, State.afterRead_cpu]

@[simp] theorem State.afterFetch8_pc :
    s.afterFetch8.cpu.pc = if s.cpu.haltbugLatch then s.cpu.pc else s.cpu.pc + 1 := by
  rw [State.afterFetch8_eq]

@[simp] theorem State.afterFetch8_latch : s.afterFetch8.cpu.haltbugLatch = false := by
  rw [State.afterFetch8_eq]

@[simp] theorem State.afterFetch8_cfg : s.afterFetch8.cfg = s.cfg := by
  rw [State.afterFetch8_eq]; exact s.afterRead_cfg _

@[simp] theorem State.afterFetch8_opAddr : s.afterFetch8.opAddr = s.opAddr := by
  rw [State.afterFetch8_eq]; exact s.afterRead_opAddr _

/-- A fetch from inside the block changes CPU registers only. -/
theorem State.afterFetch8_of_internal (h : regionOf s.cpu.pc ≠ .external) :
    s.afterFetch8 = { s with cpu := s.afterFetch8.cpu } := by
  rw [State.afterFetch8_eq, s.afterRead_of_ne h]

/-- As many bytes are fetched as asked for. -/
theorem State.fetchFrom_length (n : Nat) : (State.fetchFrom n s).1.length = n := by
  induction n generalizing s with
  | zero => rfl
  | succ n ih => simp [State.fetchFrom, ih]

/-! ## Ticks -/

/-- Ticking `m` times and then `n` times is ticking `m + n` times. -/
theorem Timer.ticks_add (m n : Nat) (t : Timer) :
    Timer.ticks (m + n) t =
      ((Timer.ticks n (Timer.ticks m t).1).1, (Timer.ticks m t).2 ||| (Timer.ticks n (Timer.ticks m t).1).2) := by
  induction m generalizing t with
  | zero => simp [Timer.ticks]
  | succ m ih =>
    rw [Nat.add_right_comm, Timer.ticks, Timer.ticks]
    simp only [ih, BitVec.or_assoc]

/-- Ticking `m` times and then `n` times is ticking `m + n` times. -/
theorem Lcd.ticks_add (m n : Nat) (d : Lcd) :
    Lcd.ticks (m + n) d =
      ((Lcd.ticks n (Lcd.ticks m d).1).1, (Lcd.ticks m d).2 ||| (Lcd.ticks n (Lcd.ticks m d).1).2) := by
  induction m generalizing d with
  | zero => simp [Lcd.ticks]
  | succ m ih =>
    rw [Nat.add_right_comm, Lcd.ticks, Lcd.ticks]
    simp only [ih, BitVec.or_assoc]

/-- A property that one tick keeps is kept by any number. -/
theorem Timer.ticks_induction {P : Timer → Prop} (h : ∀ t, P t → P t.tick.1) (n : Nat) {t : Timer} (ht : P t) :
    P (t.ticks n).1 := by
  induction n generalizing t with
  | zero => exact ht
  | succ n ih => exact ih (h t ht)

/-- A property that one tick keeps is kept by any number. -/
theorem Lcd.ticks_induction {P : Lcd → Prop} (h : ∀ d, P d → P d.tick.1) (n : Nat) {d : Lcd} (hd : P d) :
    P (d.ticks n).1 := by
  induction n generalizing d with
  | zero => exact hd
  | succ n ih => exact ih (h d hd)

/-! ## The CPU phase and the step -/

/-- The three things a CPU phase can be: a dispatch, an idle step, an instruction. -/
theorem State.awakePhase_cases :
    (s.cpu.ime = true ∧ s.pending ≠ 0 ∧
      s.awakePhase = .next ((s.takeInterrupt (lowestRequest s.pending)).report 20)) ∨
    (¬(s.cpu.ime = true ∧ s.pending ≠ 0) ∧ s.cpu.halted = true ∧ s.awakePhase = .next (s.report 4)) ∨
    (¬(s.cpu.ime = true ∧ s.pending ≠ 0) ∧ s.cpu.halted = false ∧
      s.awakePhase = s.promoteEi.executeInstruction) := by
  unfold State.awakePhase
  by_cases h : s.cpu.ime = true ∧ s.pending ≠ 0
  · exact .inl ⟨h.1, h.2, if_pos h⟩
  · cases hh : s.cpu.halted
    · exact .inr (.inr ⟨h, rfl, by rw [if_neg h, if_neg (by simp)]⟩)
    · exact .inr (.inl ⟨h, rfl, by rw [if_neg h, if_pos rfl]⟩)

/-- What a next state of a step is: the machine switched off, or the CPU phase's state with its devices
advanced. -/
theorem step_next_cases {s t : State} (h : step s = .next t) :
    s.powered = true ∧ s.cfg.accepted = true ∧
    ((s.env.powerOffNow = true ∧ t = s.switchOff) ∨
      (s.env.powerOffNow = false ∧ ∃ u, s.cpuPhase = .next u ∧ t = u.advance)) := by
  unfold step State.outerStep at h
  split at h
  · cases h
  rename_i hp
  split at h
  · cases h
  rename_i ha
  refine ⟨by simpa using hp, by simpa using ha, ?_⟩
  split at h
  · rename_i ho
    exact .inl ⟨ho, by cases h; rfl⟩
  · rename_i ho
    refine .inr ⟨by simpa using ho, ?_⟩
    cases hc : s.cpuPhase with
    | next u => rw [hc] at h; exact ⟨u, rfl, by cases h; rfl⟩
    | fault r => rw [hc] at h; cases h
    | refused r => rw [hc] at h; cases h

/-- A fault of a step is a fault of its CPU phase. -/
theorem step_fault_cases {s : State} {r : Fault} (h : step s = .fault r) : s.cpuPhase = .fault r := by
  unfold step State.outerStep at h
  split at h
  · cases h
  split at h
  · cases h
  split at h
  · cases h
  cases hc : s.cpuPhase with
  | next u => rw [hc] at h; cases h
  | fault q => rw [hc] at h; cases h; rfl
  | refused q => rw [hc] at h; cases h

end Sys2Proof.Machine
end

