-- ==== Sys2Proof/Tests/Slice0.lean ====
section
/-! SUPPORT. Tests: the smoke test of WellFormed, the decoding of every row of spec/opcode_table.json, the
vectors of 95_test_vectors.md (at most two per instruction), the loader, and a state that meets the hypotheses
of each statement of Certificates/Slice0/Obligations.lean. Every expected value comes from the spec. -/

namespace Sys2Proof.Tests

open Sys2Proof Sys2Proof.Machine Sys2Proof.Forms

/-! ## WellFormed -/

/-- No byte outside the eleven makes an illegal instruction, a neighbour of one included. -/
theorem test_wellFormed_refuses :
    [0x00, 0xCB, 0xD4, 0xFB, 0xFF].all (fun b => !(Instr.illegal b).wellFormed) = true := by decide

theorem test_wellFormed_accepts : (Instr.illegal 0xD3).wellFormed = true ∧ (Instr.illegal 0xFD).wellFormed = true ∧
    Instr.prefixCb.wellFormed = true ∧ (Instr.bitA 7).wellFormed = true := by decide

/-! ## Decoding: one word of every row of the table, its operand bits 0x9C, 0xF234 or bit 5 -/

/-- The bytes decode to the instruction and nothing is left over. -/
def reads (x : List Byte × Instr) : Bool :=
  match decode x.1 with
  | .ok (i, []) => i = x.2
  | _ => false

theorem test_decode_1 : [
    ([0x00], .nop), ([0x01, 0x34, 0xF2], .ldBcNn 0xF234), ([0x02], .ldAtBcA), ([0x03], .incBc), ([0x04], .incB),
    ([0x05], .decB), ([0x06, 0x9C], .ldBN 0x9C), ([0x07], .rlca), ([0x08, 0x34, 0xF2], .ldAtNnSp 0xF234),
    ([0x09], .addHlBc), ([0x0A], .ldAAtBc), ([0x0B], .decBc), ([0x0C], .incC), ([0x0D], .decC),
    ([0x0E, 0x9C], .ldCN 0x9C), ([0x0F], .rrca), ([0x10, 0x9C], .stop 0x9C),
    ([0x11, 0x34, 0xF2], .ldDeNn 0xF234), ([0x12], .ldAtDeA), ([0x13], .incDe), ([0x14], .incD),
    ([0x15], .decD), ([0x16, 0x9C], .ldDN 0x9C), ([0x17], .rla), ([0x18, 0x9C], .jrE 0x9C), ([0x19], .addHlDe),
    ([0x1A], .ldAAtDe), ([0x1B], .decDe), ([0x1C], .incE), ([0x1D], .decE), ([0x1E, 0x9C], .ldEN 0x9C),
    ([0x1F], .rra), ([0x20, 0x9C], .jrNzE 0x9C), ([0x21, 0x34, 0xF2], .ldHlNn 0xF234), ([0x22], .ldAtHlIncA),
    ([0x23], .incHl), ([0x24], .incH), ([0x25], .decH), ([0x26, 0x9C], .ldHN 0x9C), ([0x27], .daa),
    ([0x28, 0x9C], .jrZE 0x9C), ([0x29], .addHlHl), ([0x2A], .ldAAtHlInc)].all reads = true := by decide

theorem test_decode_2 : [
    ([0x2B], .decHl), ([0x2C], .incL), ([0x2D], .decL), ([0x2E, 0x9C], .ldLN 0x9C), ([0x2F], .cpl),
    ([0x30, 0x9C], .jrNcE 0x9C), ([0x31, 0x34, 0xF2], .ldSpNn 0xF234), ([0x32], .ldAtHlDecA), ([0x33], .incSp),
    ([0x34], .incAtHl), ([0x35], .decAtHl), ([0x36, 0x9C], .ldAtHlN 0x9C), ([0x37], .scf),
    ([0x38, 0x9C], .jrCE 0x9C), ([0x39], .addHlSp), ([0x3A], .ldAAtHlDec), ([0x3B], .decSp), ([0x3C], .incA),
    ([0x3D], .decA), ([0x3E, 0x9C], .ldAN 0x9C), ([0x3F], .ccf), ([0x40], .ldBB), ([0x41], .ldBC),
    ([0x42], .ldBD), ([0x43], .ldBE), ([0x44], .ldBH), ([0x45], .ldBL), ([0x46], .ldBAtHl), ([0x47], .ldBA),
    ([0x48], .ldCB), ([0x49], .ldCC), ([0x4A], .ldCD), ([0x4B], .ldCE), ([0x4C], .ldCH), ([0x4D], .ldCL),
    ([0x4E], .ldCAtHl), ([0x4F], .ldCA), ([0x50], .ldDB), ([0x51], .ldDC), ([0x52], .ldDD), ([0x53], .ldDE),
    ([0x54], .ldDH), ([0x55], .ldDL)].all reads = true := by decide

theorem test_decode_3 : [
    ([0x56], .ldDAtHl), ([0x57], .ldDA), ([0x58], .ldEB), ([0x59], .ldEC), ([0x5A], .ldED), ([0x5B], .ldEE),
    ([0x5C], .ldEH), ([0x5D], .ldEL), ([0x5E], .ldEAtHl), ([0x5F], .ldEA), ([0x60], .ldHB), ([0x61], .ldHC),
    ([0x62], .ldHD), ([0x63], .ldHE), ([0x64], .ldHH), ([0x65], .ldHL), ([0x66], .ldHAtHl), ([0x67], .ldHA),
    ([0x68], .ldLB), ([0x69], .ldLC), ([0x6A], .ldLD), ([0x6B], .ldLE), ([0x6C], .ldLH), ([0x6D], .ldLL),
    ([0x6E], .ldLAtHl), ([0x6F], .ldLA), ([0x70], .ldAtHlB), ([0x71], .ldAtHlC), ([0x72], .ldAtHlD),
    ([0x73], .ldAtHlE), ([0x74], .ldAtHlH), ([0x75], .ldAtHlL), ([0x76], .halt), ([0x77], .ldAtHlA),
    ([0x78], .ldAB), ([0x79], .ldAC), ([0x7A], .ldAD), ([0x7B], .ldAE), ([0x7C], .ldAH), ([0x7D], .ldAL),
    ([0x7E], .ldAAtHl), ([0x7F], .ldAA), ([0x80], .addAB)].all reads = true := by decide

theorem test_decode_4 : [
    ([0x81], .addAC), ([0x82], .addAD), ([0x83], .addAE), ([0x84], .addAH), ([0x85], .addAL),
    ([0x86], .addAAtHl), ([0x87], .addAA), ([0x88], .adcAB), ([0x89], .adcAC), ([0x8A], .adcAD),
    ([0x8B], .adcAE), ([0x8C], .adcAH), ([0x8D], .adcAL), ([0x8E], .adcAAtHl), ([0x8F], .adcAA),
    ([0x90], .subB), ([0x91], .subC), ([0x92], .subD), ([0x93], .subE), ([0x94], .subH), ([0x95], .subL),
    ([0x96], .subAtHl), ([0x97], .subA), ([0x98], .sbcAB), ([0x99], .sbcAC), ([0x9A], .sbcAD), ([0x9B], .sbcAE),
    ([0x9C], .sbcAH), ([0x9D], .sbcAL), ([0x9E], .sbcAAtHl), ([0x9F], .sbcAA), ([0xA0], .andB), ([0xA1], .andC),
    ([0xA2], .andD), ([0xA3], .andE), ([0xA4], .andH), ([0xA5], .andL), ([0xA6], .andAtHl), ([0xA7], .andA),
    ([0xA8], .xorB), ([0xA9], .xorC), ([0xAA], .xorD), ([0xAB], .xorE)].all reads = true := by decide

theorem test_decode_5 : [
    ([0xAC], .xorH), ([0xAD], .xorL), ([0xAE], .xorAtHl), ([0xAF], .xorA), ([0xB0], .orB), ([0xB1], .orC),
    ([0xB2], .orD), ([0xB3], .orE), ([0xB4], .orH), ([0xB5], .orL), ([0xB6], .orAtHl), ([0xB7], .orA),
    ([0xB8], .cpB), ([0xB9], .cpC), ([0xBA], .cpD), ([0xBB], .cpE), ([0xBC], .cpH), ([0xBD], .cpL),
    ([0xBE], .cpAtHl), ([0xBF], .cpA), ([0xC0], .retNz), ([0xC1], .popBc), ([0xC2, 0x34, 0xF2], .jpNzNn 0xF234),
    ([0xC3, 0x34, 0xF2], .jpNn 0xF234), ([0xC4, 0x34, 0xF2], .callNzNn 0xF234), ([0xC5], .pushBc),
    ([0xC6, 0x9C], .addAN 0x9C), ([0xC7], .rst00), ([0xC8], .retZ), ([0xC9], .ret),
    ([0xCA, 0x34, 0xF2], .jpZNn 0xF234), ([0xCB], .prefixCb), ([0xCC, 0x34, 0xF2], .callZNn 0xF234),
    ([0xCD, 0x34, 0xF2], .callNn 0xF234), ([0xCE, 0x9C], .adcAN 0x9C), ([0xCF], .rst08), ([0xD0], .retNc),
    ([0xD1], .popDe), ([0xD2, 0x34, 0xF2], .jpNcNn 0xF234), ([0xD3], .illegal 0xD3),
    ([0xD4, 0x34, 0xF2], .callNcNn 0xF234), ([0xD5], .pushDe), ([0xD6, 0x9C], .subN 0x9C)].all reads = true := by decide

theorem test_decode_6 : [
    ([0xD7], .rst10), ([0xD8], .retC), ([0xD9], .reti), ([0xDA, 0x34, 0xF2], .jpCNn 0xF234),
    ([0xDB], .illegal 0xDB), ([0xDC, 0x34, 0xF2], .callCNn 0xF234), ([0xDD], .illegal 0xDD),
    ([0xDE, 0x9C], .sbcAN 0x9C), ([0xDF], .rst18), ([0xE0, 0x9C], .ldhAtNA 0x9C), ([0xE1], .popHl),
    ([0xE2], .ldhAtCA), ([0xE3], .illegal 0xE3), ([0xE4], .illegal 0xE4), ([0xE5], .pushHl),
    ([0xE6, 0x9C], .andN 0x9C), ([0xE7], .rst20), ([0xE8, 0x9C], .addSpE 0x9C), ([0xE9], .jpHl),
    ([0xEA, 0x34, 0xF2], .ldAtNnA 0xF234), ([0xEB], .illegal 0xEB), ([0xEC], .illegal 0xEC),
    ([0xED], .illegal 0xED), ([0xEE, 0x9C], .xorN 0x9C), ([0xEF], .rst28), ([0xF0, 0x9C], .ldhAAtN 0x9C),
    ([0xF1], .popAf), ([0xF2], .ldhAAtC), ([0xF3], .di), ([0xF4], .illegal 0xF4), ([0xF5], .pushAf),
    ([0xF6, 0x9C], .orN 0x9C), ([0xF7], .rst30), ([0xF8, 0x9C], .ldHlSpE 0x9C), ([0xF9], .ldSpHl),
    ([0xFA, 0x34, 0xF2], .ldAAtNn 0xF234), ([0xFB], .ei), ([0xFC], .illegal 0xFC), ([0xFD], .illegal 0xFD),
    ([0xFE, 0x9C], .cpN 0x9C), ([0xFF], .rst38), ([0xCB, 0x00], .rlcB), ([0xCB, 0x01], .rlcC)].all reads = true := by decide

theorem test_decode_7 : [
    ([0xCB, 0x02], .rlcD), ([0xCB, 0x03], .rlcE), ([0xCB, 0x04], .rlcH), ([0xCB, 0x05], .rlcL),
    ([0xCB, 0x06], .rlcAtHl), ([0xCB, 0x07], .rlcA), ([0xCB, 0x08], .rrcB), ([0xCB, 0x09], .rrcC),
    ([0xCB, 0x0A], .rrcD), ([0xCB, 0x0B], .rrcE), ([0xCB, 0x0C], .rrcH), ([0xCB, 0x0D], .rrcL),
    ([0xCB, 0x0E], .rrcAtHl), ([0xCB, 0x0F], .rrcA), ([0xCB, 0x10], .rlB), ([0xCB, 0x11], .rlC),
    ([0xCB, 0x12], .rlD), ([0xCB, 0x13], .rlE), ([0xCB, 0x14], .rlH), ([0xCB, 0x15], .rlL),
    ([0xCB, 0x16], .rlAtHl), ([0xCB, 0x17], .rlA), ([0xCB, 0x18], .rrB), ([0xCB, 0x19], .rrC),
    ([0xCB, 0x1A], .rrD), ([0xCB, 0x1B], .rrE), ([0xCB, 0x1C], .rrH), ([0xCB, 0x1D], .rrL),
    ([0xCB, 0x1E], .rrAtHl), ([0xCB, 0x1F], .rrA), ([0xCB, 0x20], .slaB), ([0xCB, 0x21], .slaC),
    ([0xCB, 0x22], .slaD), ([0xCB, 0x23], .slaE), ([0xCB, 0x24], .slaH), ([0xCB, 0x25], .slaL),
    ([0xCB, 0x26], .slaAtHl), ([0xCB, 0x27], .slaA), ([0xCB, 0x28], .sraB), ([0xCB, 0x29], .sraC),
    ([0xCB, 0x2A], .sraD), ([0xCB, 0x2B], .sraE), ([0xCB, 0x2C], .sraH)].all reads = true := by decide

theorem test_decode_8 : [
    ([0xCB, 0x2D], .sraL), ([0xCB, 0x2E], .sraAtHl), ([0xCB, 0x2F], .sraA), ([0xCB, 0x30], .swapB),
    ([0xCB, 0x31], .swapC), ([0xCB, 0x32], .swapD), ([0xCB, 0x33], .swapE), ([0xCB, 0x34], .swapH),
    ([0xCB, 0x35], .swapL), ([0xCB, 0x36], .swapAtHl), ([0xCB, 0x37], .swapA), ([0xCB, 0x38], .srlB),
    ([0xCB, 0x39], .srlC), ([0xCB, 0x3A], .srlD), ([0xCB, 0x3B], .srlE), ([0xCB, 0x3C], .srlH),
    ([0xCB, 0x3D], .srlL), ([0xCB, 0x3E], .srlAtHl), ([0xCB, 0x3F], .srlA), ([0xCB, 0x68], .bitB 5),
    ([0xCB, 0x69], .bitC 5), ([0xCB, 0x6A], .bitD 5), ([0xCB, 0x6B], .bitE 5), ([0xCB, 0x6C], .bitH 5),
    ([0xCB, 0x6D], .bitL 5), ([0xCB, 0x6E], .bitAtHl 5), ([0xCB, 0x6F], .bitA 5), ([0xCB, 0xA8], .resB 5),
    ([0xCB, 0xA9], .resC 5), ([0xCB, 0xAA], .resD 5), ([0xCB, 0xAB], .resE 5), ([0xCB, 0xAC], .resH 5),
    ([0xCB, 0xAD], .resL 5), ([0xCB, 0xAE], .resAtHl 5), ([0xCB, 0xAF], .resA 5), ([0xCB, 0xE8], .setB 5),
    ([0xCB, 0xE9], .setC 5), ([0xCB, 0xEA], .setD 5), ([0xCB, 0xEB], .setE 5), ([0xCB, 0xEC], .setH 5),
    ([0xCB, 0xED], .setL 5), ([0xCB, 0xEE], .setAtHl 5), ([0xCB, 0xEF], .setA 5)].all reads = true := by decide

theorem test_decode_refuses : decode [] = .error .noBytes ∧ decode [0x06] = .error (.truncated 0x06) ∧
    decode [0x01, 0x34] = .error (.truncated 0x01) := by decide

/-- The numbering of the table: a CB row has its first byte in bits 15:8, every other row in bits 7:0. -/
theorem test_decodeTableWord : decodeTableWord 16 0xCB37 = some .swapA ∧ decodeTableWord 8 0xCB = some .prefixCb ∧
    decodeTableWord 24 0xF23401 = some (.ldBcNn 0xF234) ∧ decodeTableWord 8 0x01 = some (.ldBcNn 0) ∧
    decodeTableWord 8 0xED = some (.illegal 0xED) := by decide

/-! ## The vectors of 95_test_vectors.md -/

/-- The registers of the vectors' start state. -/
def zeros (pc : Word) : Cpu where
  a := 0
  f := { z := false, n := false, h := false, c := false }
  b := 0
  c := 0
  d := 0
  e := 0
  h := 0
  l := 0
  sp := 0xDFF0
  pc := pc
  ime := false
  eiPending := false
  halted := false
  haltbugLatch := false

def noTimer : Timer := { div := 0, divCnt := 0, tima := 0, tma := 0, tac := 0, timaCnt := 0 }

/-- An environment that delivers nothing in the next step, as the vectors assume. -/
def quiet : Env := { State.reset.env with steps := [⟨false, false, false⟩] }

/-- The vectors' start state with the bytes at `pc`. -/
def start (pc : Word) (bytes : List Byte) : State :=
  { State.reset with cpu := zeros pc, env := quiet }.pokeBytes pc bytes

/-- One step answers a next state of which `p` holds. -/
def after (s : State) (p : State → Bool) : Bool :=
  match step s with
  | .next t => p t
  | _ => false

/-- V1 `LD B,B`. -/
theorem test_v1 : after { start 0xC000 [0x40] with cpu := { zeros 0xC000 with b := 0x5A } }
    (fun t => t.cpu.b = 0x5A ∧ t.fByte = 0x00 ∧ t.cpu.pc = 0xC001 ∧ t.cost = 4) = true := by decide

/-- V2 `LD H,(HL)`. -/
theorem test_v2 : after { (start 0xC000 [0x66]).poke 0xC123 0xD0 with cpu := { zeros 0xC000 with h := 0xC1, l := 0x23 } }
    (fun t => t.hl = 0xD023 ∧ t.cpu.pc = 0xC001 ∧ t.cost = 8) = true := by decide

/-- V3 `LD (HL),L`. -/
theorem test_v3 : after { start 0xC000 [0x75] with cpu := { zeros 0xC000 with h := 0xC1, l := 0xA5 } }
    (fun t => t.hl = 0xC1A5 ∧ t.busRead 0xC1A5 = 0xA5 ∧ t.cpu.pc = 0xC001 ∧ t.cost = 8) = true := by decide

/-- V4 `LD (HL),n`. -/
theorem test_v4 : after { start 0xC000 [0x36, 0x99] with cpu := { zeros 0xC000 with h := 0x40, l := 0x00 } }
    (fun t => t.busRead 0x4000 = 0x00 ∧ t.cpu.pc = 0xC002 ∧ t.cost = 12) = true := by decide

/-- V5 `LD A,(HL+)`. -/
theorem test_v5 : after { start 0xC000 [0x2A] with cpu := { zeros 0xC000 with h := 0xFF, l := 0xFF }, irq := { enable := 0x15, flags := 0 } }
    (fun t => t.cpu.a = 0x15 ∧ t.hl = 0x0000 ∧ t.cpu.pc = 0xC001 ∧ t.cost = 8) = true := by decide

/-- V6 `LD (HL-),A`. -/
theorem test_v6 : after { start 0xC000 [0x32] with cpu := { zeros 0xC000 with h := 0xC1, l := 0x00, a := 0x42 } }
    (fun t => t.hl = 0xC0FF ∧ t.busRead 0xC100 = 0x42 ∧ t.cpu.pc = 0xC001 ∧ t.cost = 8) = true := by decide

/-- V7 `LD A,(HL-)`. -/
theorem test_v7 : after { (start 0xC000 [0x3A]).poke 0x0000 0x31 with cpu := { zeros 0xC000 with h := 0x00, l := 0x00 } }
    (fun t => t.cpu.a = 0x31 ∧ t.hl = 0xFFFF ∧ t.cpu.pc = 0xC001 ∧ t.cost = 8) = true := by decide

/-- V8 `LDH (n),A`. -/
theorem test_v8 : after { start 0xC000 [0xE0, 0x80] with cpu := { zeros 0xC000 with a := 0x77 } }
    (fun t => t.busRead 0xFF80 = 0x77 ∧ t.cpu.pc = 0xC002 ∧ t.cost = 12) = true := by decide

/-- V9 `LDH A,(n)`. -/
theorem test_v9 : after { start 0xC000 [0xF0, 0x0F] with irq := { flags := 0x05, enable := 0 } }
    (fun t => t.cpu.a = 0xE5 ∧ t.irq.flags = 0x05 ∧ t.cpu.pc = 0xC002 ∧ t.cost = 12) = true := by decide

/-- V10 `LDH (n),A`. -/
theorem test_v10 : after { start 0xC000 [0xE0, 0x0F] with cpu := { zeros 0xC000 with a := 0xFF } }
    (fun t => t.irq.flags = 0x1F ∧ t.busRead 0xFF0F = 0xFF ∧ t.cpu.pc = 0xC002 ∧ t.cost = 12) = true := by decide

/-- V11 `LD A,(nn)`. -/
theorem test_v11 : after (start 0xC000 [0xFA, 0x00, 0xE0])
    (fun t => t.cpu.a = 0xFA ∧ t.cpu.pc = 0xC003 ∧ t.cost = 16) = true := by decide

/-- V12 `LD (nn),A`. -/
theorem test_v12 : after { start 0xC000 [0xEA, 0x34, 0xF2] with cpu := { zeros 0xC000 with a := 0x6B } }
    (fun t => t.busRead 0xD234 = 0x6B ∧ t.busRead 0xF234 = 0x6B ∧ t.cpu.pc = 0xC003 ∧ t.cost = 16) = true := by decide

/-- V13 `LD A,(nn)`. -/
theorem test_v13 : after { start 0xC000 [0xFA, 0xA0, 0xFE] with cpu := { zeros 0xC000 with a := 0x12 } }
    (fun t => t.cpu.a = 0xFF ∧ t.cpu.pc = 0xC003 ∧ t.cost = 16) = true := by decide

/-- V14 `LD (nn),A`. -/
theorem test_v14 : after { start 0xC000 [0xEA, 0xFF, 0xFF] with cpu := { zeros 0xC000 with a := 0xE4 } }
    (fun t => t.irq.enable = 0xE4 ∧ t.busRead 0xFFFF = 0xE4 ∧ t.cpu.pc = 0xC003 ∧ t.cost = 16) = true := by decide

/-- V15 `LDH A,(C)`. -/
theorem test_v15 : after { start 0xC000 [0xF2] with cpu := { zeros 0xC000 with c := 0x7F, a := 0x00 } }
    (fun t => t.cpu.a = 0xFF ∧ t.cpu.pc = 0xC001 ∧ t.cost = 8) = true := by decide

/-- V16 `LDH (C),A`. -/
theorem test_v16 : after { start 0xC000 [0xE2] with cpu := { zeros 0xC000 with c := 0x04, a := 0x99 }, timer := { noTimer with div := 0x37, divCnt := 200 } }
    (fun t => t.timer.div = 0x00 ∧ t.timer.divCnt = 8 ∧ t.cpu.pc = 0xC001 ∧ t.cost = 8) = true := by decide +kernel

/-- V17 `LD (BC),A`. -/
theorem test_v17 : after { start 0xC000 [0x02] with cpu := { zeros 0xC000 with b := 0xA0, c := 0x00, a := 0x55 } }
    (fun t => t.busRead 0xA000 = 0xFF ∧ t.cpu.pc = 0xC001 ∧ t.cost = 8) = true := by decide

/-- V18 `LD A,(DE)`. -/
theorem test_v18 : after { (start 0xC000 [0x1A]).poke 0xFE9F 0x3D with cpu := { zeros 0xC000 with d := 0xFE, e := 0x9F } }
    (fun t => t.cpu.a = 0x3D ∧ t.cpu.pc = 0xC001 ∧ t.cost = 8) = true := by decide

/-- V19 `LD SP,nn`. -/
theorem test_v19 : after (start 0xC000 [0x31, 0xFE, 0xFF])
    (fun t => t.cpu.sp = 0xFFFE ∧ t.cpu.pc = 0xC003 ∧ t.cost = 12) = true := by decide

/-- V20 `LD BC,nn`. -/
theorem test_v20 : after (start 0xC000 [0x01, 0xCD, 0xAB])
    (fun t => t.cpu.b = 0xAB ∧ t.cpu.c = 0xCD ∧ t.cpu.pc = 0xC003 ∧ t.cost = 12) = true := by decide

/-- V21 `LD (nn),SP`. -/
theorem test_v21 : after { start 0xC000 [0x08, 0xFF, 0xC0] with cpu := { zeros 0xC000 with sp := 0x1234 } }
    (fun t => t.busRead 0xC0FF = 0x34 ∧ t.busRead 0xC100 = 0x12 ∧ t.cpu.pc = 0xC003 ∧ t.cost = 20) = true := by decide

/-- V22 `LD HL,SP+e`. -/
theorem test_v22 : after { start 0xC000 [0xF8, 0x01] with cpu := { zeros 0xC000 with sp := 0x00FF, f := .ofByte 0xC0 } }
    (fun t => t.hl = 0x0100 ∧ t.fByte = 0x30 ∧ t.cpu.sp = 0x00FF ∧ t.cpu.pc = 0xC002 ∧ t.cost = 12) = true := by decide

/-- V23 `LD HL,SP+e`. -/
theorem test_v23 : after { start 0xC000 [0xF8, 0x80] with cpu := { zeros 0xC000 with sp := 0xD080 } }
    (fun t => t.hl = 0xD000 ∧ t.fByte = 0x10 ∧ t.cpu.pc = 0xC002 ∧ t.cost = 12) = true := by decide

/-- V25 `PUSH AF`. -/
theorem test_v25 : after { start 0xC000 [0xF5] with cpu := { zeros 0xC000 with a := 0x12, f := .ofByte 0xF0, sp := 0xD000 } }
    (fun t => t.cpu.sp = 0xCFFE ∧ t.busRead 0xCFFF = 0x12 ∧ t.busRead 0xCFFE = 0xF0 ∧ t.cpu.pc = 0xC001 ∧ t.cost = 16) = true := by decide

/-- V26 `PUSH HL`. -/
theorem test_v26 : after { start 0xC000 [0xE5] with cpu := { zeros 0xC000 with h := 0xBE, l := 0xEF, sp := 0x0001 } }
    (fun t => t.cpu.sp = 0xFFFF ∧ t.busRead 0xFFFF = 0xEF ∧ t.cpu.pc = 0xC001 ∧ t.cost = 16) = true := by decide

/-- V27 `POP AF`. -/
theorem test_v27 : after { ((start 0xC000 [0xF1]).poke 0xD000 0x0F).poke 0xD001 0xAA with cpu := { zeros 0xC000 with sp := 0xD000 } }
    (fun t => t.cpu.a = 0xAA ∧ t.fByte = 0x00 ∧ t.cpu.sp = 0xD002 ∧ t.cpu.pc = 0xC001 ∧ t.cost = 12) = true := by decide

/-- V28 `POP BC`. -/
theorem test_v28 : after { (start 0xC000 [0xC1]).poke 0xFFFE 0x21 with cpu := { zeros 0xC000 with sp := 0xFFFE }, irq := { enable := 0x9C, flags := 0 } }
    (fun t => t.bc = 0x9C21 ∧ t.cpu.sp = 0x0000 ∧ t.cpu.pc = 0xC001 ∧ t.cost = 12) = true := by decide

/-- V29 `LD SP,HL`. -/
theorem test_v29 : after { start 0xC000 [0xF9] with cpu := { zeros 0xC000 with h := 0x00, l := 0x00, f := .ofByte 0xF0 } }
    (fun t => t.cpu.sp = 0x0000 ∧ t.fByte = 0xF0 ∧ t.cpu.pc = 0xC001 ∧ t.cost = 8) = true := by decide

/-- V30 `ADD A,n`. -/
theorem test_v30 : after { start 0xC000 [0xC6, 0x01] with cpu := { zeros 0xC000 with a := 0x0F } }
    (fun t => t.cpu.a = 0x10 ∧ t.fByte = 0x20 ∧ t.cpu.pc = 0xC002 ∧ t.cost = 8) = true := by decide

/-- V31 `ADD A,n`. -/
theorem test_v31 : after { start 0xC000 [0xC6, 0x01] with cpu := { zeros 0xC000 with a := 0xFF } }
    (fun t => t.cpu.a = 0x00 ∧ t.fByte = 0xB0 ∧ t.cpu.pc = 0xC002 ∧ t.cost = 8) = true := by decide

/-- V32 `SUB n`. -/
theorem test_v32 : after { start 0xC000 [0xD6, 0x01] with cpu := { zeros 0xC000 with a := 0x10 } }
    (fun t => t.cpu.a = 0x0F ∧ t.fByte = 0x60 ∧ t.cpu.pc = 0xC002 ∧ t.cost = 8) = true := by decide

/-- V33 `SUB n`. -/
theorem test_v33 : after { start 0xC000 [0xD6, 0x01] with cpu := { zeros 0xC000 with a := 0x00 } }
    (fun t => t.cpu.a = 0xFF ∧ t.fByte = 0x70 ∧ t.cpu.pc = 0xC002 ∧ t.cost = 8) = true := by decide

/-- V34 `INC B`. -/
theorem test_v34 : after { start 0xC000 [0x04] with cpu := { zeros 0xC000 with b := 0x0F, f := .ofByte 0x10 } }
    (fun t => t.cpu.b = 0x10 ∧ t.fByte = 0x30 ∧ t.cpu.pc = 0xC001 ∧ t.cost = 4) = true := by decide

/-- V35 `INC B`. -/
theorem test_v35 : after { start 0xC000 [0x04] with cpu := { zeros 0xC000 with b := 0xFF, f := .ofByte 0x10 } }
    (fun t => t.cpu.b = 0x00 ∧ t.fByte = 0xB0 ∧ t.cpu.pc = 0xC001 ∧ t.cost = 4) = true := by decide

/-- V36 `DEC B`. -/
theorem test_v36 : after { start 0xC000 [0x05] with cpu := { zeros 0xC000 with b := 0x10, f := .ofByte 0x00 } }
    (fun t => t.cpu.b = 0x0F ∧ t.fByte = 0x60 ∧ t.cpu.pc = 0xC001 ∧ t.cost = 4) = true := by decide

/-- V37 `DEC B`. -/
theorem test_v37 : after { start 0xC000 [0x05] with cpu := { zeros 0xC000 with b := 0x00, f := .ofByte 0x00 } }
    (fun t => t.cpu.b = 0xFF ∧ t.fByte = 0x60 ∧ t.cpu.pc = 0xC001 ∧ t.cost = 4) = true := by decide

/-- V39 `ADD A,A`. -/
theorem test_v39 : after { start 0xC000 [0x87] with cpu := { zeros 0xC000 with a := 0x80 } }
    (fun t => t.cpu.a = 0x00 ∧ t.fByte = 0x90 ∧ t.cpu.pc = 0xC001 ∧ t.cost = 4) = true := by decide

/-- V40 `ADD A,A`. -/
theorem test_v40 : after { start 0xC000 [0x87] with cpu := { zeros 0xC000 with a := 0x88 } }
    (fun t => t.cpu.a = 0x10 ∧ t.fByte = 0x30 ∧ t.cpu.pc = 0xC001 ∧ t.cost = 4) = true := by decide

/-- V41 `ADC A,n`. -/
theorem test_v41 : after { start 0xC000 [0xCE, 0x00] with cpu := { zeros 0xC000 with a := 0xFF, f := .ofByte 0x10 } }
    (fun t => t.cpu.a = 0x00 ∧ t.fByte = 0xB0 ∧ t.cpu.pc = 0xC002 ∧ t.cost = 8) = true := by decide

/-- V42 `ADC A,n`. -/
theorem test_v42 : after { start 0xC000 [0xCE, 0xFF] with cpu := { zeros 0xC000 with a := 0x00, f := .ofByte 0x10 } }
    (fun t => t.cpu.a = 0x00 ∧ t.fByte = 0xB0 ∧ t.cpu.pc = 0xC002 ∧ t.cost = 8) = true := by decide

/-- V43 `ADC A,B`. -/
theorem test_v43 : after { start 0xC000 [0x88] with cpu := { zeros 0xC000 with a := 0x0F, b := 0x00, f := .ofByte 0x10 } }
    (fun t => t.cpu.a = 0x10 ∧ t.fByte = 0x20 ∧ t.cpu.pc = 0xC001 ∧ t.cost = 4) = true := by decide

/-- V44 `ADC A,B`. -/
theorem test_v44 : after { start 0xC000 [0x88] with cpu := { zeros 0xC000 with a := 0x0F, b := 0x00, f := .ofByte 0xE0 } }
    (fun t => t.cpu.a = 0x0F ∧ t.fByte = 0x00 ∧ t.cpu.pc = 0xC001 ∧ t.cost = 4) = true := by decide

/-- V45 `SBC A,n`. -/
theorem test_v45 : after { start 0xC000 [0xDE, 0x00] with cpu := { zeros 0xC000 with a := 0x00, f := .ofByte 0x10 } }
    (fun t => t.cpu.a = 0xFF ∧ t.fByte = 0x70 ∧ t.cpu.pc = 0xC002 ∧ t.cost = 8) = true := by decide

/-- V46 `SBC A,n`. -/
theorem test_v46 : after { start 0xC000 [0xDE, 0xFF] with cpu := { zeros 0xC000 with a := 0x00, f := .ofByte 0x10 } }
    (fun t => t.cpu.a = 0x00 ∧ t.fByte = 0xF0 ∧ t.cpu.pc = 0xC002 ∧ t.cost = 8) = true := by decide

/-- V47 `SBC A,B`. -/
theorem test_v47 : after { start 0xC000 [0x98] with cpu := { zeros 0xC000 with a := 0x10, b := 0x0F, f := .ofByte 0x10 } }
    (fun t => t.cpu.a = 0x00 ∧ t.fByte = 0xE0 ∧ t.cpu.pc = 0xC001 ∧ t.cost = 4) = true := by decide

/-- V48 `SBC A,A`. -/
theorem test_v48 : after { start 0xC000 [0x9F] with cpu := { zeros 0xC000 with a := 0x77, f := .ofByte 0x10 } }
    (fun t => t.cpu.a = 0xFF ∧ t.fByte = 0x70 ∧ t.cpu.pc = 0xC001 ∧ t.cost = 4) = true := by decide

/-- V49 `SBC A,A`. -/
theorem test_v49 : after { start 0xC000 [0x9F] with cpu := { zeros 0xC000 with a := 0x77, f := .ofByte 0x00 } }
    (fun t => t.cpu.a = 0x00 ∧ t.fByte = 0xC0 ∧ t.cpu.pc = 0xC001 ∧ t.cost = 4) = true := by decide

/-- V50 `CP n`. -/
theorem test_v50 : after { start 0xC000 [0xFE, 0x90] with cpu := { zeros 0xC000 with a := 0x80 } }
    (fun t => t.cpu.a = 0x80 ∧ t.fByte = 0x50 ∧ t.cpu.pc = 0xC002 ∧ t.cost = 8) = true := by decide

/-- V51 `CP A`. -/
theorem test_v51 : after { start 0xC000 [0xBF] with cpu := { zeros 0xC000 with a := 0x33, f := .ofByte 0x10 } }
    (fun t => t.cpu.a = 0x33 ∧ t.fByte = 0xC0 ∧ t.cpu.pc = 0xC001 ∧ t.cost = 4) = true := by decide

/-- V52 `AND A`. -/
theorem test_v52 : after { start 0xC000 [0xA7] with cpu := { zeros 0xC000 with a := 0x00, f := .ofByte 0x50 } }
    (fun t => t.cpu.a = 0x00 ∧ t.fByte = 0xA0 ∧ t.cpu.pc = 0xC001 ∧ t.cost = 4) = true := by decide

/-- V53 `AND n`. -/
theorem test_v53 : after { start 0xC000 [0xE6, 0xF0] with cpu := { zeros 0xC000 with a := 0x0F } }
    (fun t => t.cpu.a = 0x00 ∧ t.fByte = 0xA0 ∧ t.cpu.pc = 0xC002 ∧ t.cost = 8) = true := by decide

/-- V54 `OR A`. -/
theorem test_v54 : after { start 0xC000 [0xB7] with cpu := { zeros 0xC000 with a := 0x00, f := .ofByte 0x70 } }
    (fun t => t.cpu.a = 0x00 ∧ t.fByte = 0x80 ∧ t.cpu.pc = 0xC001 ∧ t.cost = 4) = true := by decide

/-- V55 `OR (HL)`. -/
theorem test_v55 : after { (start 0xC000 [0xB6]).poke 0xC100 0x01 with cpu := { zeros 0xC000 with a := 0x80, h := 0xC1, l := 0x00, f := .ofByte 0xF0 } }
    (fun t => t.cpu.a = 0x81 ∧ t.fByte = 0x00 ∧ t.cpu.pc = 0xC001 ∧ t.cost = 8) = true := by decide

/-- V56 `XOR A`. -/
theorem test_v56 : after { start 0xC000 [0xAF] with cpu := { zeros 0xC000 with a := 0xFF, f := .ofByte 0x70 } }
    (fun t => t.cpu.a = 0x00 ∧ t.fByte = 0x80 ∧ t.cpu.pc = 0xC001 ∧ t.cost = 4) = true := by decide

/-- V57 `XOR n`. -/
theorem test_v57 : after { start 0xC000 [0xEE, 0x0F] with cpu := { zeros 0xC000 with a := 0xF0 } }
    (fun t => t.cpu.a = 0xFF ∧ t.fByte = 0x00 ∧ t.cpu.pc = 0xC002 ∧ t.cost = 8) = true := by decide

/-- V58 `INC (HL)`. -/
theorem test_v58 : after { (start 0xC000 [0x34]).poke 0xC100 0xFF with cpu := { zeros 0xC000 with h := 0xC1, l := 0x00, f := .ofByte 0x10 } }
    (fun t => t.fByte = 0xB0 ∧ t.busRead 0xC100 = 0x00 ∧ t.cpu.pc = 0xC001 ∧ t.cost = 12) = true := by decide

/-- V59 `DEC (HL)`. -/
theorem test_v59 : after { (start 0xC000 [0x35]).poke 0xC100 0x01 with cpu := { zeros 0xC000 with h := 0xC1, l := 0x00, f := .ofByte 0x10 } }
    (fun t => t.fByte = 0xD0 ∧ t.busRead 0xC100 = 0x00 ∧ t.cpu.pc = 0xC001 ∧ t.cost = 12) = true := by decide

/-- V60 `INC (HL)`. -/
theorem test_v60 : after { start 0xC000 [0x34] with cpu := { zeros 0xC000 with h := 0xFF, l := 0x04 }, timer := { noTimer with div := 0x41, divCnt := 9 } }
    (fun t => t.timer.div = 0x00 ∧ t.timer.divCnt = 12 ∧ t.fByte = 0x00 ∧ t.cpu.pc = 0xC001 ∧ t.cost = 12) = true := by decide +kernel

/-- V61 `DAA`. -/
theorem test_v61 : after { start 0xC000 [0x27] with cpu := { zeros 0xC000 with a := 0x9A, f := .ofByte 0x00 } }
    (fun t => t.cpu.a = 0x00 ∧ t.fByte = 0x90 ∧ t.cpu.pc = 0xC001 ∧ t.cost = 4) = true := by decide

/-- V62 `DAA`. -/
theorem test_v62 : after { start 0xC000 [0x27] with cpu := { zeros 0xC000 with a := 0x00, f := .ofByte 0x00 } }
    (fun t => t.cpu.a = 0x00 ∧ t.fByte = 0x80 ∧ t.cpu.pc = 0xC001 ∧ t.cost = 4) = true := by decide

/-- V72 `CPL`. -/
theorem test_v72 : after { start 0xC000 [0x2F] with cpu := { zeros 0xC000 with a := 0x00, f := .ofByte 0x90 } }
    (fun t => t.cpu.a = 0xFF ∧ t.fByte = 0xF0 ∧ t.cpu.pc = 0xC001 ∧ t.cost = 4) = true := by decide

/-- V73 `SCF`. -/
theorem test_v73 : after { start 0xC000 [0x37] with cpu := { zeros 0xC000 with f := .ofByte 0x00 } }
    (fun t => t.fByte = 0x10 ∧ t.cpu.pc = 0xC001 ∧ t.cost = 4) = true := by decide

/-- V74 `CCF`. -/
theorem test_v74 : after { start 0xC000 [0x3F] with cpu := { zeros 0xC000 with f := .ofByte 0xF0 } }
    (fun t => t.fByte = 0x80 ∧ t.cpu.pc = 0xC001 ∧ t.cost = 4) = true := by decide

/-- V75 `CCF`. -/
theorem test_v75 : after { start 0xC000 [0x3F] with cpu := { zeros 0xC000 with f := .ofByte 0x00 } }
    (fun t => t.fByte = 0x10 ∧ t.cpu.pc = 0xC001 ∧ t.cost = 4) = true := by decide

/-- V76 `ADD HL,HL`. -/
theorem test_v76 : after { start 0xC000 [0x29] with cpu := { zeros 0xC000 with h := 0x80, l := 0x00, f := .ofByte 0x80 } }
    (fun t => t.hl = 0x0000 ∧ t.fByte = 0x90 ∧ t.cpu.pc = 0xC001 ∧ t.cost = 8) = true := by decide

/-- V77 `ADD HL,HL`. -/
theorem test_v77 : after { start 0xC000 [0x29] with cpu := { zeros 0xC000 with h := 0x08, l := 0x00, f := .ofByte 0x00 } }
    (fun t => t.hl = 0x1000 ∧ t.fByte = 0x20 ∧ t.cpu.pc = 0xC001 ∧ t.cost = 8) = true := by decide

/-- V78 `ADD HL,DE`. -/
theorem test_v78 : after { start 0xC000 [0x19] with cpu := { zeros 0xC000 with h := 0x0F, l := 0xFF, d := 0x00, e := 0x01, f := .ofByte 0x50 } }
    (fun t => t.hl = 0x1000 ∧ t.fByte = 0x20 ∧ t.cpu.pc = 0xC001 ∧ t.cost = 8) = true := by decide

/-- V79 `ADD HL,SP`. -/
theorem test_v79 : after { start 0xC000 [0x39] with cpu := { zeros 0xC000 with h := 0xF0, l := 0x00, sp := 0x1000, f := .ofByte 0x00 } }
    (fun t => t.hl = 0x0000 ∧ t.fByte = 0x10 ∧ t.cpu.sp = 0x1000 ∧ t.cpu.pc = 0xC001 ∧ t.cost = 8) = true := by decide

/-- V80 `ADD HL,BC`. -/
theorem test_v80 : after { start 0xC000 [0x09] with cpu := { zeros 0xC000 with h := 0x00, l := 0xFF, b := 0x00, c := 0x01, f := .ofByte 0x00 } }
    (fun t => t.hl = 0x0100 ∧ t.fByte = 0x00 ∧ t.cpu.pc = 0xC001 ∧ t.cost = 8) = true := by decide

/-- V81 `INC SP`. -/
theorem test_v81 : after { start 0xC000 [0x33] with cpu := { zeros 0xC000 with sp := 0xFFFF, f := .ofByte 0xF0 } }
    (fun t => t.cpu.sp = 0x0000 ∧ t.fByte = 0xF0 ∧ t.cpu.pc = 0xC001 ∧ t.cost = 8) = true := by decide

/-- V82 `INC HL`. -/
theorem test_v82 : after { start 0xC000 [0x23] with cpu := { zeros 0xC000 with h := 0x00, l := 0xFF, f := .ofByte 0x00 } }
    (fun t => t.hl = 0x0100 ∧ t.fByte = 0x00 ∧ t.cpu.pc = 0xC001 ∧ t.cost = 8) = true := by decide

/-- V83 `DEC HL`. -/
theorem test_v83 : after { start 0xC000 [0x2B] with cpu := { zeros 0xC000 with h := 0x00, l := 0x00, f := .ofByte 0x00 } }
    (fun t => t.hl = 0xFFFF ∧ t.fByte = 0x00 ∧ t.cpu.pc = 0xC001 ∧ t.cost = 8) = true := by decide

/-- V84 `DEC SP`. -/
theorem test_v84 : after { start 0xC000 [0x3B] with cpu := { zeros 0xC000 with sp := 0x0000, f := .ofByte 0xF0 } }
    (fun t => t.cpu.sp = 0xFFFF ∧ t.fByte = 0xF0 ∧ t.cpu.pc = 0xC001 ∧ t.cost = 8) = true := by decide

/-- V85 `ADD SP,e`. -/
theorem test_v85 : after { start 0xC000 [0xE8, 0x80] with cpu := { zeros 0xC000 with sp := 0xD080, f := .ofByte 0xF0 } }
    (fun t => t.cpu.sp = 0xD000 ∧ t.fByte = 0x10 ∧ t.cpu.pc = 0xC002 ∧ t.cost = 16) = true := by decide

/-- V86 `ADD SP,e`. -/
theorem test_v86 : after { start 0xC000 [0xE8, 0x7F] with cpu := { zeros 0xC000 with sp := 0xD081 } }
    (fun t => t.cpu.sp = 0xD100 ∧ t.fByte = 0x30 ∧ t.cpu.pc = 0xC002 ∧ t.cost = 16) = true := by decide

/-- V89 `RLCA`. -/
theorem test_v89 : after { start 0xC000 [0x07] with cpu := { zeros 0xC000 with a := 0x80, f := .ofByte 0xE0 } }
    (fun t => t.cpu.a = 0x01 ∧ t.fByte = 0x10 ∧ t.cpu.pc = 0xC001 ∧ t.cost = 4) = true := by decide

/-- V90 `RLCA`. -/
theorem test_v90 : after { start 0xC000 [0x07] with cpu := { zeros 0xC000 with a := 0x00, f := .ofByte 0xF0 } }
    (fun t => t.cpu.a = 0x00 ∧ t.fByte = 0x00 ∧ t.cpu.pc = 0xC001 ∧ t.cost = 4) = true := by decide

/-- V91 `RLA`. -/
theorem test_v91 : after { start 0xC000 [0x17] with cpu := { zeros 0xC000 with a := 0x80, f := .ofByte 0x00 } }
    (fun t => t.cpu.a = 0x00 ∧ t.fByte = 0x10 ∧ t.cpu.pc = 0xC001 ∧ t.cost = 4) = true := by decide

/-- V92 `RLA`. -/
theorem test_v92 : after { start 0xC000 [0x17] with cpu := { zeros 0xC000 with a := 0x00, f := .ofByte 0x10 } }
    (fun t => t.cpu.a = 0x01 ∧ t.fByte = 0x00 ∧ t.cpu.pc = 0xC001 ∧ t.cost = 4) = true := by decide

/-- V93 `RRCA`. -/
theorem test_v93 : after { start 0xC000 [0x0F] with cpu := { zeros 0xC000 with a := 0x01, f := .ofByte 0x00 } }
    (fun t => t.cpu.a = 0x80 ∧ t.fByte = 0x10 ∧ t.cpu.pc = 0xC001 ∧ t.cost = 4) = true := by decide

/-- V94 `RRA`. -/
theorem test_v94 : after { start 0xC000 [0x1F] with cpu := { zeros 0xC000 with a := 0x01, f := .ofByte 0x00 } }
    (fun t => t.cpu.a = 0x00 ∧ t.fByte = 0x10 ∧ t.cpu.pc = 0xC001 ∧ t.cost = 4) = true := by decide

/-- V95 `RRA`. -/
theorem test_v95 : after { start 0xC000 [0x1F] with cpu := { zeros 0xC000 with a := 0x00, f := .ofByte 0x90 } }
    (fun t => t.cpu.a = 0x80 ∧ t.fByte = 0x00 ∧ t.cpu.pc = 0xC001 ∧ t.cost = 4) = true := by decide

/-- V96 `RLC B`. -/
theorem test_v96 : after { start 0xC000 [0xCB, 0x00] with cpu := { zeros 0xC000 with b := 0x80, f := .ofByte 0x00 } }
    (fun t => t.cpu.b = 0x01 ∧ t.fByte = 0x10 ∧ t.cpu.pc = 0xC002 ∧ t.cost = 8) = true := by decide

/-- V97 `RLC B`. -/
theorem test_v97 : after { start 0xC000 [0xCB, 0x00] with cpu := { zeros 0xC000 with b := 0x00, f := .ofByte 0x10 } }
    (fun t => t.cpu.b = 0x00 ∧ t.fByte = 0x80 ∧ t.cpu.pc = 0xC002 ∧ t.cost = 8) = true := by decide

/-- V98 `RRC A`. -/
theorem test_v98 : after { start 0xC000 [0xCB, 0x0F] with cpu := { zeros 0xC000 with a := 0x01 } }
    (fun t => t.cpu.a = 0x80 ∧ t.fByte = 0x10 ∧ t.cpu.pc = 0xC002 ∧ t.cost = 8) = true := by decide

/-- V99 `RL A`. -/
theorem test_v99 : after { start 0xC000 [0xCB, 0x17] with cpu := { zeros 0xC000 with a := 0x80, f := .ofByte 0x00 } }
    (fun t => t.cpu.a = 0x00 ∧ t.fByte = 0x90 ∧ t.cpu.pc = 0xC002 ∧ t.cost = 8) = true := by decide

/-- V100 `RL C`. -/
theorem test_v100 : after { start 0xC000 [0xCB, 0x11] with cpu := { zeros 0xC000 with c := 0x7F, f := .ofByte 0x10 } }
    (fun t => t.cpu.c = 0xFF ∧ t.fByte = 0x00 ∧ t.cpu.pc = 0xC002 ∧ t.cost = 8) = true := by decide

/-- V101 `RR B`. -/
theorem test_v101 : after { start 0xC000 [0xCB, 0x18] with cpu := { zeros 0xC000 with b := 0x00, f := .ofByte 0x10 } }
    (fun t => t.cpu.b = 0x80 ∧ t.fByte = 0x00 ∧ t.cpu.pc = 0xC002 ∧ t.cost = 8) = true := by decide

/-- V102 `RR (HL)`. -/
theorem test_v102 : after { (start 0xC000 [0xCB, 0x1E]).poke 0xC100 0x01 with cpu := { zeros 0xC000 with h := 0xC1, l := 0x00, f := .ofByte 0x00 } }
    (fun t => t.fByte = 0x90 ∧ t.busRead 0xC100 = 0x00 ∧ t.cpu.pc = 0xC002 ∧ t.cost = 16) = true := by decide

/-- V103 `SLA A`. -/
theorem test_v103 : after { start 0xC000 [0xCB, 0x27] with cpu := { zeros 0xC000 with a := 0xFF, f := .ofByte 0x00 } }
    (fun t => t.cpu.a = 0xFE ∧ t.fByte = 0x10 ∧ t.cpu.pc = 0xC002 ∧ t.cost = 8) = true := by decide

/-- V104 `SLA (HL)`. -/
theorem test_v104 : after { (start 0xC000 [0xCB, 0x26]).poke 0xC100 0x80 with cpu := { zeros 0xC000 with h := 0xC1, l := 0x00, f := .ofByte 0x10 } }
    (fun t => t.fByte = 0x90 ∧ t.busRead 0xC100 = 0x00 ∧ t.cpu.pc = 0xC002 ∧ t.cost = 16) = true := by decide

/-- V105 `SRA B`. -/
theorem test_v105 : after { start 0xC000 [0xCB, 0x28] with cpu := { zeros 0xC000 with b := 0x81, f := .ofByte 0x00 } }
    (fun t => t.cpu.b = 0xC0 ∧ t.fByte = 0x10 ∧ t.cpu.pc = 0xC002 ∧ t.cost = 8) = true := by decide

/-- V106 `SRA B`. -/
theorem test_v106 : after { start 0xC000 [0xCB, 0x28] with cpu := { zeros 0xC000 with b := 0x01, f := .ofByte 0x00 } }
    (fun t => t.cpu.b = 0x00 ∧ t.fByte = 0x90 ∧ t.cpu.pc = 0xC002 ∧ t.cost = 8) = true := by decide

/-- V107 `SRL B`. -/
theorem test_v107 : after { start 0xC000 [0xCB, 0x38] with cpu := { zeros 0xC000 with b := 0x81, f := .ofByte 0x00 } }
    (fun t => t.cpu.b = 0x40 ∧ t.fByte = 0x10 ∧ t.cpu.pc = 0xC002 ∧ t.cost = 8) = true := by decide

/-- V108 `SRL B`. -/
theorem test_v108 : after { start 0xC000 [0xCB, 0x38] with cpu := { zeros 0xC000 with b := 0x80, f := .ofByte 0x10 } }
    (fun t => t.cpu.b = 0x40 ∧ t.fByte = 0x00 ∧ t.cpu.pc = 0xC002 ∧ t.cost = 8) = true := by decide

/-- V109 `SWAP B`. -/
theorem test_v109 : after { start 0xC000 [0xCB, 0x30] with cpu := { zeros 0xC000 with b := 0x00, f := .ofByte 0x70 } }
    (fun t => t.cpu.b = 0x00 ∧ t.fByte = 0x80 ∧ t.cpu.pc = 0xC002 ∧ t.cost = 8) = true := by decide

/-- V110 `SWAP (HL)`. -/
theorem test_v110 : after { (start 0xC000 [0xCB, 0x36]).poke 0xC100 0xA5 with cpu := { zeros 0xC000 with h := 0xC1, l := 0x00, f := .ofByte 0x10 } }
    (fun t => t.fByte = 0x00 ∧ t.busRead 0xC100 = 0x5A ∧ t.cpu.pc = 0xC002 ∧ t.cost = 16) = true := by decide

/-- V111 `BIT 7,H`. -/
theorem test_v111 : after { start 0xC000 [0xCB, 0x7C] with cpu := { zeros 0xC000 with h := 0x80, f := .ofByte 0x50 } }
    (fun t => t.cpu.h = 0x80 ∧ t.fByte = 0x30 ∧ t.cpu.pc = 0xC002 ∧ t.cost = 8) = true := by decide

/-- V112 `BIT 7,H`. -/
theorem test_v112 : after { start 0xC000 [0xCB, 0x7C] with cpu := { zeros 0xC000 with h := 0x7F, f := .ofByte 0x10 } }
    (fun t => t.cpu.h = 0x7F ∧ t.fByte = 0xB0 ∧ t.cpu.pc = 0xC002 ∧ t.cost = 8) = true := by decide

/-- V113 `BIT 0,(HL)`. -/
theorem test_v113 : after { (start 0xC000 [0xCB, 0x46]).poke 0xC100 0x01 with cpu := { zeros 0xC000 with h := 0xC1, l := 0x00, f := .ofByte 0x00 } }
    (fun t => t.fByte = 0x20 ∧ t.busRead 0xC100 = 0x01 ∧ t.cpu.pc = 0xC002 ∧ t.cost = 12) = true := by decide

/-- V114 `BIT 3,(HL)`. -/
theorem test_v114 : after { start 0xC000 [0xCB, 0x5E] with cpu := { zeros 0xC000 with h := 0xFF, l := 0x41, f := .ofByte 0x00 } }
    (fun t => t.fByte = 0xA0 ∧ t.cpu.pc = 0xC002 ∧ t.cost = 12) = true := by decide

/-- V115 `RES 0,(HL)`. -/
theorem test_v115 : after { (start 0xC000 [0xCB, 0x86]).poke 0xC100 0xFF with cpu := { zeros 0xC000 with h := 0xC1, l := 0x00, f := .ofByte 0xF0 } }
    (fun t => t.fByte = 0xF0 ∧ t.busRead 0xC100 = 0xFE ∧ t.cpu.pc = 0xC002 ∧ t.cost = 16) = true := by decide

/-- V116 `SET 7,(HL)`. -/
theorem test_v116 : after { (start 0xC000 [0xCB, 0xFE]).poke 0xC100 0x00 with cpu := { zeros 0xC000 with h := 0xC1, l := 0x00, f := .ofByte 0x00 } }
    (fun t => t.fByte = 0x00 ∧ t.busRead 0xC100 = 0x80 ∧ t.cpu.pc = 0xC002 ∧ t.cost = 16) = true := by decide

/-- V117 `SET 1,E`. -/
theorem test_v117 : after { start 0xC000 [0xCB, 0xCB] with cpu := { zeros 0xC000 with e := 0x00 } }
    (fun t => t.cpu.e = 0x02 ∧ t.fByte = 0x00 ∧ t.cpu.pc = 0xC002 ∧ t.cost = 8) = true := by decide

/-- V118 `RES 7,A`. -/
theorem test_v118 : after { start 0xC000 [0xCB, 0xBF] with cpu := { zeros 0xC000 with a := 0x7F } }
    (fun t => t.cpu.a = 0x7F ∧ t.fByte = 0x00 ∧ t.cpu.pc = 0xC002 ∧ t.cost = 8) = true := by decide

/-- V119 `SET 2,(HL)`. -/
theorem test_v119 : after { start 0xC000 [0xCB, 0xD6] with cpu := { zeros 0xC000 with h := 0xFF, l := 0x07 }, timer := { noTimer with tac := 0x01 } }
    (fun t => t.timer.tac = 0x05 ∧ t.cpu.pc = 0xC002 ∧ t.cost = 16) = true := by decide +kernel

/-- V120 `JP nn`. -/
theorem test_v120 : after (start 0xC000 [0xC3, 0x00, 0xC0])
    (fun t => t.cpu.pc = 0xC000 ∧ t.cost = 16) = true := by decide

/-- V121 `JP NC,nn`. -/
theorem test_v121 : after { start 0xC000 [0xD2, 0x34, 0x12] with cpu := { zeros 0xC000 with f := .ofByte 0x10 } }
    (fun t => t.fByte = 0x10 ∧ t.cpu.pc = 0xC003 ∧ t.cost = 12) = true := by decide

/-- V122 `JP C,nn`. -/
theorem test_v122 : after { start 0xC000 [0xDA, 0x34, 0x12] with cpu := { zeros 0xC000 with f := .ofByte 0x10 } }
    (fun t => t.cpu.pc = 0x1234 ∧ t.cost = 16) = true := by decide

/-- V123 `JP HL`. -/
theorem test_v123 : after { start 0xC000 [0xE9] with cpu := { zeros 0xC000 with h := 0xFF, l := 0xFF } }
    (fun t => t.cpu.pc = 0xFFFF ∧ t.cost = 4) = true := by decide

/-- V124 `JR e`. -/
theorem test_v124 : after (start 0xC000 [0x18, 0xFE])
    (fun t => t.cpu.pc = 0xC000 ∧ t.cost = 12) = true := by decide

/-- V125 `JR e`. -/
theorem test_v125 : after (start 0xC100 [0x18, 0x80])
    (fun t => t.cpu.pc = 0xC082 ∧ t.cost = 12) = true := by decide

/-- V128 `JR Z,e`. -/
theorem test_v128 : after { start 0xC000 [0x28, 0x10] with cpu := { zeros 0xC000 with f := .ofByte 0x70 } }
    (fun t => t.cpu.pc = 0xC002 ∧ t.cost = 8) = true := by decide

/-- V129 `JR C,e`. -/
theorem test_v129 : after { start 0xC000 [0x38, 0xF0] with cpu := { zeros 0xC000 with f := .ofByte 0x10 } }
    (fun t => t.cpu.pc = 0xBFF2 ∧ t.cost = 12) = true := by decide

/-- V130 `CALL nn`. -/
theorem test_v130 : after { start 0xC000 [0xCD, 0x00, 0xD0] with cpu := { zeros 0xC000 with sp := 0xDFF0 } }
    (fun t => t.cpu.sp = 0xDFEE ∧ t.busRead 0xDFEF = 0xC0 ∧ t.busRead 0xDFEE = 0x03 ∧ t.cpu.pc = 0xD000 ∧ t.cost = 24) = true := by decide

/-- V131 `CALL NZ,nn`. -/
theorem test_v131 : after { start 0xC000 [0xC4, 0x00, 0xD0] with cpu := { zeros 0xC000 with f := .ofByte 0x80 } }
    (fun t => t.cpu.sp = 0xDFF0 ∧ t.cpu.pc = 0xC003 ∧ t.cost = 12) = true := by decide

/-- V132 `CALL C,nn`. -/
theorem test_v132 : after { start 0xC000 [0xDC, 0x00, 0xD0] with cpu := { zeros 0xC000 with f := .ofByte 0x10, sp := 0xC200 } }
    (fun t => t.cpu.sp = 0xC1FE ∧ t.busRead 0xC1FF = 0xC0 ∧ t.busRead 0xC1FE = 0x03 ∧ t.cpu.pc = 0xD000 ∧ t.cost = 24) = true := by decide

/-- V133 `RET`. -/
theorem test_v133 : after { ((start 0xC000 [0xC9]).poke 0xC200 0xCD).poke 0xC201 0xAB with cpu := { zeros 0xC000 with sp := 0xC200 } }
    (fun t => t.cpu.sp = 0xC202 ∧ t.cpu.pc = 0xABCD ∧ t.cost = 16) = true := by decide

/-- V134 `RET Z`. -/
theorem test_v134 : after { ((start 0xC000 [0xC8]).poke 0xC200 0xCD).poke 0xC201 0xAB with cpu := { zeros 0xC000 with sp := 0xC200, f := .ofByte 0x00 } }
    (fun t => t.cpu.sp = 0xC200 ∧ t.cpu.pc = 0xC001 ∧ t.cost = 8) = true := by decide

/-- V135 `RET Z`. -/
theorem test_v135 : after { ((start 0xC000 [0xC8]).poke 0xC200 0xCD).poke 0xC201 0xAB with cpu := { zeros 0xC000 with sp := 0xC200, f := .ofByte 0x80 } }
    (fun t => t.cpu.sp = 0xC202 ∧ t.cpu.pc = 0xABCD ∧ t.cost = 20) = true := by decide

/-- V136 `RETI`. -/
theorem test_v136 : after { ((start 0xC000 [0xD9]).poke 0xC200 0x00).poke 0xC201 0xC3 with cpu := { zeros 0xC000 with sp := 0xC200, ime := false } }
    (fun t => t.cpu.sp = 0xC202 ∧ t.cpu.ime = true ∧ t.cpu.pc = 0xC300 ∧ t.cost = 16) = true := by decide

/-- V137 `RST 00H`. -/
theorem test_v137 : after { start 0xC000 [0xC7] with cpu := { zeros 0xC000 with sp := 0xD000 } }
    (fun t => t.cpu.sp = 0xCFFE ∧ t.busRead 0xCFFF = 0xC0 ∧ t.busRead 0xCFFE = 0x01 ∧ t.cpu.pc = 0x0000 ∧ t.cost = 16) = true := by decide

/-- V138 `RST 38H`. -/
theorem test_v138 : after { start 0xC1FF [0xFF] with cpu := { zeros 0xC1FF with sp := 0xD000 } }
    (fun t => t.cpu.sp = 0xCFFE ∧ t.busRead 0xCFFF = 0xC2 ∧ t.busRead 0xCFFE = 0x00 ∧ t.cpu.pc = 0x0038 ∧ t.cost = 16) = true := by decide

/-- V140 `NOP`. -/
theorem test_v140 : after { start 0xC000 [0x00] with cpu := { zeros 0xC000 with f := .ofByte 0xF0 } }
    (fun t => t.fByte = 0xF0 ∧ t.cpu.pc = 0xC001 ∧ t.cost = 4) = true := by decide

/-- V141 `DI`. -/
theorem test_v141 : after { start 0xC000 [0xF3] with cpu := { zeros 0xC000 with ime := true }, irq := { enable := 0x01, flags := 0x00 } }
    (fun t => t.cpu.ime = false ∧ t.cpu.pc = 0xC001 ∧ t.cost = 4) = true := by decide

/-- V142 `EI`. -/
theorem test_v142 : after { start 0xC000 [0xFB] with cpu := { zeros 0xC000 with ime := false } }
    (fun t => t.cpu.ime = false ∧ t.cpu.eiPending = true ∧ t.cpu.pc = 0xC001 ∧ t.cost = 4) = true := by decide

/-- V154 `STOP`. -/
theorem test_v154 : after { start 0xC000 [0x10, 0xED] with cpu := { zeros 0xC000 with ime := false }, irq := { enable := 0x00, flags := 0 } }
    (fun t => t.cpu.halted = true ∧ t.cpu.pc = 0xC002 ∧ t.cost = 4) = true := by decide

/-- V157 `LD A,n with n=0xED`. -/
theorem test_v157 : after (start 0xC000 [0x3E, 0xED])
    (fun t => t.cpu.a = 0xED ∧ t.cpu.pc = 0xC002 ∧ t.cost = 8) = true := by decide

/-- V158 (dispatch). -/
theorem test_v158 : after { start 0xC000 [0x00] with cpu := { zeros 0xC000 with ime := true, sp := 0xD000 }, irq := { enable := 0x1F, flags := 0x1F } }
    (fun t => t.cpu.ime = false ∧ t.irq.flags = 0x1E ∧ t.cpu.sp = 0xCFFE ∧ t.busRead 0xCFFF = 0xC0 ∧ t.busRead 0xCFFE = 0x00 ∧ t.cpu.pc = 0x0040 ∧ t.cost = 20) = true := by decide

/-- V159 (dispatch). -/
theorem test_v159 : after { start 0xC000 [0x00] with cpu := { zeros 0xC000 with ime := true, sp := 0xD000 }, irq := { enable := 0x1E, flags := 0x1F } }
    (fun t => t.cpu.ime = false ∧ t.irq.flags = 0x1D ∧ t.cpu.sp = 0xCFFE ∧ t.cpu.pc = 0x0048 ∧ t.cost = 20) = true := by decide

/-- V163 `NOP`. -/
theorem test_v163 : after { start 0xC000 [0x00] with cpu := { zeros 0xC000 with ime := true }, irq := { enable := 0xE0, flags := 0x1F } }
    (fun t => t.cpu.ime = true ∧ t.irq.flags = 0x1F ∧ t.cpu.pc = 0xC001 ∧ t.cost = 4) = true := by decide

/-- V166 (halted; wake, dispatch). -/
theorem test_v166 : after { start 0xC000 [0x00] with cpu := { zeros 0xC000 with ime := true, halted := true, sp := 0xD000 }, irq := { enable := 0x04, flags := 0x04 } }
    (fun t => t.cpu.ime = false ∧ t.irq.flags = 0x00 ∧ t.cpu.halted = false ∧ t.cpu.sp = 0xCFFE ∧ t.busRead 0xCFFF = 0xC0 ∧ t.busRead 0xCFFE = 0x00 ∧ t.cpu.pc = 0x0050 ∧ t.cost = 20) = true := by decide

/-- V167 (halted; wake, no dispatch) INC A. -/
theorem test_v167 : after { start 0xC000 [0x3C] with cpu := { zeros 0xC000 with ime := false, halted := true }, irq := { enable := 0x04, flags := 0x04 } }
    (fun t => t.cpu.a = 0x01 ∧ t.irq.flags = 0x04 ∧ t.cpu.halted = false ∧ t.cpu.pc = 0xC001 ∧ t.cost = 4) = true := by decide

/-- V168 (halted; stays). -/
theorem test_v168 : after { start 0xC000 [0x3C] with cpu := { zeros 0xC000 with ime := true, halted := true }, irq := { enable := 0x04, flags := 0x03 } }
    (fun t => t.cpu.a = 0x00 ∧ t.irq.flags = 0x03 ∧ t.cpu.halted = true ∧ t.cpu.pc = 0xC000 ∧ t.cost = 4) = true := by decide

/-- V155 and the example of R305: the fault carries the address and the byte. -/
theorem test_illegal : (match step (start 0xC000 [0xED]) with
    | .fault r => r == .illegalOpcode 0xC000 0xED
    | _ => false) = true := by decide

/-- V151, second step: the byte at PC is executed and PC stays. -/
theorem test_halt_bug : after { start 0xC001 [0x3C] with cpu := { zeros 0xC001 with haltbugLatch := true } }
    (fun t => t.cpu.a = 0x01 ∧ t.cpu.pc = 0xC001 ∧ t.cpu.haltbugLatch = false) = true := by decide

/-- V151, first step: with `HALT_BUG` the machine does not halt. -/
theorem test_halt_latch : after
    { start 0xC000 [0x76] with
      cfg := { State.reset.cfg with haltBug := true }, irq := { flags := 0x04, enable := 0x04 } }
    (fun t => t.cpu.haltbugLatch = true ∧ t.cpu.halted = false ∧ t.cpu.pc = 0xC001) = true := by decide

/-- The `CB` prefix fetched under the latch is `SET 1,E` (R245). -/
theorem test_halt_bug_prefix : after
    { start 0xC000 [0xCB, 0x00] with cpu := { zeros 0xC000 with haltbugLatch := true } }
    (fun t => t.cpu.e = 0x02 ∧ t.cpu.pc = 0xC001) = true := by decide

/-- V143 and V144, second step: the instruction after EI executes with IME set, though a request is pending. -/
theorem test_ei_window : after
    { start 0xC001 [0x00] with
      cpu := { zeros 0xC001 with eiPending := true }, irq := { flags := 0x01, enable := 0x01 } }
    (fun t => t.cpu.ime = true ∧ t.cpu.eiPending = false ∧ t.cpu.pc = 0xC002 ∧ t.irq.flags = 0x01) = true := by
  decide +kernel

/-- R323: the requests listed for a step reach IF at its merge, serial in bit 3 and joypad in bit 4. -/
theorem test_ext_irq : [⟨false, true, false⟩, ⟨false, false, true⟩, ⟨false, true, true⟩].map (fun i =>
      after { start 0xC000 [0x00] with env := { quiet with steps := [i] } } (fun t =>
        t.irq.flags = BitVec.ofNat 5 (i.serial.toNat * 8 + i.joypad.toNat * 16) ∧ t.env.steps = [])) =
    [true, true, true] := by decide

/-! ## Devices -/

/-- T2: after 256 ticks DIV is 1. -/
theorem test_div : (noTimer.ticks 256).1.div = 0x01 ∧ (noTimer.ticks 255).1.div = 0x00 := by decide +kernel

/-- T8: TIMA after 31 and 32 ticks; the request is raised by tick 32. -/
theorem test_tima : let t : Timer := { noTimer with tac := 0x05, tima := 0xFE, tma := 0x80 }
    (t.ticks 31).1.tima = 0xFF ∧ (t.ticks 31).2 = 0 ∧ (t.ticks 32).1.tima = 0x80 ∧ (t.ticks 32).2 = 4 := by
  decide +kernel

/-- T16: the comparison of the prescaler is `>=`. -/
theorem test_tima_shorter_period :
    (Timer.ticks 1 { noTimer with tac := 0x05, timaCnt := 500 }).1 =
      { noTimer with divCnt := 1, tac := 0x05, tima := 0x01 } := by decide

/-- A display just switched on. -/
def display (stat lyc : Byte) : Lcd := ({ State.reset.lcd with lyc := lyc }.writeStat stat).writeLcdc 0x80

/-- L2: the ticks of the first line that raise STAT, and S3: the modes of a line. -/
theorem test_line : let d := display 0x78 1
    (d.ticks 251).2 = 0 ∧ (d.ticks 252).2 = 2 ∧ (d.ticks 252).1.mode = .hblank ∧
    (Lcd.ticks 203 { d with dot := 252, mode := .hblank }).2 = 0 ∧
    Lcd.ticks 204 { d with dot := 252, mode := .hblank } = ({ d with ly := 1 }, 2) := by decide +kernel

/-- L4, L5: entering line 144 raises vblank and the mode 1 cause, not the mode 2 cause (R392). -/
theorem test_vblank : let d : Lcd := { display 0x10 0 with ly := 143, dot := 455, mode := .hblank }
    d.tick = ({ d with ly := 144, dot := 0, mode := .vblank }, 3) ∧
    ({ d with statEn := 0b0100 }.tick).2 = 1 := by decide

/-- L6, L11: the wrap from line 153, with LYC = 0. -/
theorem test_wrap : let d : Lcd := { display 0x40 0 with ly := 153, dot := 455, mode := .vblank }
    d.tick = ({ d with ly := 0, dot := 0, mode := .searchOam }, 2) := by decide

/-- L15: what STAT reads as. -/
theorem test_stat : let s := State.reset.busWrite 0xFF41 0xFF
    s.busRead 0xFF41 = 0xFC ∧ (s.busWrite 0xFF45 0x01).busRead 0xFF41 = 0xF8 := by decide

/-- An image of `n` banks of type `t` with the byte `b` at the start of bank `b` for the banks listed. -/
def image (t : Byte) (n ramSize : Nat) (banks : List (Nat × Byte)) : State :=
  { State.reset with
    cfg := {
      romLength := n * 0x4000
      rom := (0x147, t) :: banks.map (fun x => (x.1 * 0x4000, x.2))
      ramSize := ramSize
      haltBug := false } }

/-- K1, rows 6 to 9: an MBC1's ROM bank, and the bank that cannot be selected. -/
theorem test_mbc1_rom :
    let s := ((image 0x03 128 0x8000 [(1, 0x01), (65, 0x41), (69, 0x45)]).busWrite 0x2000 0xE5).busWrite 0x4000 0x02
    s.busRead 0x4000 = 0x45 ∧ (s.busWrite 0x2000 0x20).busRead 0x4000 = 0x41 ∧
    ((s.busWrite 0x2000 0x00).busWrite 0x6000 0x01).busRead 0x4000 = 0x01 ∧ s.busRead 0x0000 = 0x00 := by decide +kernel

/-- K1, rows 11 to 18: an MBC1's RAM. -/
theorem test_mbc1_ram :
    let s := ((image 0x03 128 0x8000 []).busWrite 0x4000 0x02).busWrite 0x6000 0x01
    let t := (s.busWrite 0x0000 0x0A).busWrite 0xA000 0x22
    s.busRead 0xA000 = 0xFF ∧ s.busWrite 0xA000 0x11 = s ∧ t.cram = [(0x4000, 0x22)] ∧ t.busRead 0xA000 = 0x22 ∧
    (t.busWrite 0x6000 0x00).busRead 0xA000 = 0x00 ∧ (t.busWrite 0x0000 0x0B).busRead 0xA000 = 0xFF := by decide +kernel

/-- K4, rows 8 to 12: the clock of an MBC3 is latched by 0x00 then 0x01. -/
theorem test_mbc3_clock :
    let s := (((image 0x10 128 0x8000 []).busWrite 0x0000 0x0A).busWrite 0x4000 0x0C)
    let t : State := { s with env := { s.env with rtcIn := [⟨0x01, 0x02, 0x03, 0x04, 0x40⟩] } }
    (t.busWrite 0x6000 0x01).busRead 0xA000 = 0x00 ∧
    ((t.busWrite 0x6000 0x00).busWrite 0x6000 0x01).busRead 0xBFFF = 0x40 ∧
    (t.busWrite 0xA000 0xC1).busRead 0xA000 = 0xC1 := by decide +kernel

/-- K5, rows 3 to 6: the nine bank bits of an MBC5, bank 0 included. -/
theorem test_mbc5 :
    let s := (image 0x1B 512 0x20000 [(1, 0x01), (255, 0xFF), (256, 0x77), (511, 0xEE)]).busWrite 0x2FFF 0xFF
    s.busRead 0x4000 = 0xFF ∧ (s.busWrite 0x3000 0xFF).busRead 0x4000 = 0xEE ∧
    ((s.busWrite 0x3000 0xFF).busWrite 0x2000 0x00).busRead 0x4000 = 0x77 ∧
    (s.busWrite 0x2000 0x00).busRead 0x4000 = 0x00 := by decide +kernel

/-- K7: the images that are refused. -/
theorem test_refused_images :
    (image 0x05 2 0 []).cfg.accepted = false ∧ (image 0xFF 2 0 []).cfg.accepted = false ∧
    (image 0x00 1 0 []).cfg.accepted = false ∧
    { State.reset.cfg with romLength := 0x9000 }.accepted = false ∧ (image 0x03 128 0x8000 []).cfg.accepted = true := by
  decide

/-! ## The loader -/

/-- A word of the table is run by the first step after reset, a bare prefix as the pair CB 00. -/
theorem test_withFetchWord :
    after (State.reset.withFetchWord 16 0xCB37) (fun t => t.cpu.a = 0x10 ∧ t.cpu.pc = 0x0102) = true ∧
    after (State.reset.withFetchWord 24 0xF23401) (fun t => t.bc = 0xF234 ∧ t.cpu.pc = 0x0103) = true ∧
    after (State.reset.withFetchWord 8 0xCB) (fun t => t.cpu.b = 0x00 ∧ t.cpu.pc = 0x0102) = true := by decide +kernel

/-- Where PC is at a port, the instruction is placed in working RAM and run from there. -/
theorem test_withFetchWord_elsewhere :
    after (State.withFetchWord { State.reset with cpu := zeros 0xFF40 } 8 0x3C)
      (fun t => t.cpu.a = 0x01 ∧ t.cpu.pc = 0xC001) = true := by decide

/-! ## Witnesses: a state and operands that meet the hypotheses of each statement -/

/-- Every table of forms has the size the spec gives its rule. -/
theorem test_form_tables :
    [loadRegister.length, loadImmediate.length, loadFromHl.length, storeAtHl.length, loadPair.length,
      pushForms.length, popForms.length, addForms.length, adcForms.length, subForms.length, sbcForms.length,
      cpForms.length, andForms.length, xorForms.length, orForms.length, incForms.length, decForms.length,
      addHlForms.length, incPairForms.length, decPairForms.length, rotateForms.length, bitForms.length,
      resForms.length, setForms.length, jumpForms.length, jumpRelativeForms.length, callForms.length,
      returnForms.length, restartForms.length] =
    [49, 7, 7, 7, 4, 4, 4, 8, 8, 8, 8, 8, 8, 8, 8, 8, 8, 4, 4, 4, 64, 8, 8, 8, 4, 4, 4, 4, 8] := by decide

theorem test_witness_DecodeEncodeAgree :
    (Instr.setAtHl 7).wellFormed = true ∧ Instr.setAtHl 7 ≠ .prefixCb ∧
    (Instr.illegal 0xFD).wellFormed = true ∧ Instr.illegal 0xFD ≠ .prefixCb := by decide

theorem test_witness_EncodeDecodeAgree :
    decode [0xFA, 0x34, 0xF2, 0x00] = .ok (.ldAAtNn 0xF234, [0x00]) ∧ decode [0xCB] = .ok (.prefixCb, []) := by
  decide

theorem test_witness_IllegalBytes :
    decode [0xFD, 0x00] = .ok (.illegal 0xFD, [0x00]) ∧ decode [0xD4, 0x34, 0xF2] = .ok (.callNcNn 0xF234, []) ∧
    (0xD3 : Byte) ∈ illegalBytes ∧ (0xFD : Byte) ∈ illegalBytes := by decide

theorem test_witness_CbPrefix :
    decode [0xCB, (start 0xC000 [0xFF]).busRead (start 0xC000 [0xFF]).cpu.pc] = .ok (.setA 7, []) := by decide

/-- Both branches of the two Boolean forms an instruction statement splits on. -/
theorem test_witness_conditions :
    Cond.nz.holds (Flags.ofByte 0x00) = true ∧ Cond.nz.holds (Flags.ofByte 0x80) = false ∧
    Cond.c.holds (Flags.ofByte 0x10) = true ∧ Cond.c.holds (Flags.ofByte 0xE0) = false := by decide

/-- A machine about to execute, with IME 0, a pending EI and a pending request. -/
def waiting : State :=
  { start 0xC000 [0x3C] with
    cpu := { zeros 0xC000 with eiPending := true }, irq := { flags := 0x1F, enable := 0x1F } }

theorem test_witness_EnableInterrupts :
    waiting.powered = true ∧ waiting.cfg.accepted = true ∧ waiting.env.powerOffNow = false ∧
    waiting.cpu.halted = false ∧ waiting.cpu.ime = false ∧ waiting.cpu.eiPending = true := by decide

/-- A next state for a form that stores nothing, one that stores a byte, and one that stores two. -/
theorem test_witness_frames (s : State) :
    (∃ t, exec .nop s = .next t) ∧ (∃ t, exec .incAtHl s = .next t) ∧ (∃ t, exec .pushBc s = .next t) ∧
    ∃ t, exec .prefixCb s = .next t := ⟨⟨_, rfl⟩, ⟨_, rfl⟩, ⟨_, rfl⟩, ⟨_, rfl⟩⟩

/-- A check of every member of a list says the same of each of them. -/
theorem each {l : List Word} {p : Word → Bool} (h : l.all (fun x => !p x) = true) : ∀ x ∈ l, p x = false :=
  fun x hx => by simpa using List.all_eq_true.mp h x hx

/-- The bytes beside the two stored ones, and a port of an outside device for a form that reads none. -/
theorem test_witness_MemoryFrame :
    (∀ x ∈ storesTo State.reset .pushBc, mayChange State.reset x 0xFFFE = false) ∧ isExternal 0xFFFE = false ∧
    (∀ x ∈ storesTo State.reset .pushBc, mayChange State.reset x 0xFFFB = false) ∧
    isExternal 0xFF00 = true ∧ (∀ x ∈ readsFrom State.reset .ldBAtHl, isExternal x = false) ∧
    storesTo State.reset .pushBc = [0xFFFD, 0xFFFC] ∧ mayChange State.reset 0xFFFD 0xFFFD = true :=
  ⟨each (by decide +kernel), by decide, each (by decide +kernel), by decide, each (by decide), by decide, by decide⟩

/-- The first and last address of every row of the region map. -/
theorem test_witness_RegionMap :
    regionOf 0x0000 = .cartRom 0 ∧ regionOf 0x7FFF = .cartRom 0x7FFF ∧ regionOf 0x8000 = .vram 0 ∧
    regionOf 0x9FFF = .vram 0x1FFF ∧ regionOf 0xA000 = .cartRam 0 ∧ regionOf 0xBFFF = .cartRam 0x1FFF ∧
    regionOf 0xC000 = .wram 0 ∧ regionOf 0xDFFF = .wram 0x1FFF ∧ regionOf 0xE000 = .wram 0 ∧
    regionOf 0xFDFF = .wram 0x1DFF ∧ regionOf 0xFE00 = .oam 0 ∧ regionOf 0xFE9F = .oam 0x9F ∧
    regionOf 0xFEA0 = .unmapped ∧ regionOf 0xFEFF = .unmapped ∧ regionOf 0xFF80 = .hram 0 ∧
    regionOf 0xFFFE = .hram 0x7E ∧ regionOf 0xFFFF = .enable := by decide

/-- The first and last address of every range of ports. -/
theorem test_witness_ports :
    regionOf 0xFF00 = .external ∧ regionOf 0xFF02 = .external ∧ regionOf 0xFF03 = .unmapped ∧
    regionOf 0xFF04 = .port .div ∧ regionOf 0xFF07 = .port .tac ∧ regionOf 0xFF08 = .unmapped ∧
    regionOf 0xFF0E = .unmapped ∧ regionOf 0xFF0F = .port .ifl ∧ regionOf 0xFF10 = .external ∧
    regionOf 0xFF3F = .external ∧ regionOf 0xFF40 = .port .lcdc ∧ regionOf 0xFF4B = .port .wx ∧
    regionOf 0xFF4C = .unmapped ∧ regionOf 0xFF7F = .unmapped := by decide +kernel

theorem test_witness_MirrorAndUnmapped :
    (0xE000 ≤ (0xE000 : Word).toNat ∧ (0xE000 : Word).toNat ≤ 0xFDFF) ∧
    (0xE000 ≤ (0xFDFF : Word).toNat ∧ (0xFDFF : Word).toNat ≤ 0xFDFF) ∧
    (0xFEA0 ≤ (0xFEA0 : Word).toNat ∧ (0xFEA0 : Word).toNat < 0xFF00) ∧
    (0xFF4C ≤ (0xFF7F : Word).toNat ∧ (0xFF7F : Word).toNat ≤ 0xFF7F) := by decide

theorem test_witness_PlainStorage :
    isPlain 0x8000 = true ∧ isPlain 0x9FFF = true ∧ isPlain 0xC000 = true ∧ isPlain 0xFDFF = true ∧
    isPlain 0xFE00 = true ∧ isPlain 0xFE9F = true ∧ isPlain 0xFF80 = true ∧ isPlain 0xFFFF = true := by decide

/-- Pairs of addresses of which the store to the first leaves the second. -/
theorem test_witness_StoreChangesOnly : let s := State.reset
    mayChange s 0x0000 0x3FFF = false ∧ mayChange s 0xC000 0xE001 = false ∧ mayChange s 0xC000 0xE000 = true ∧
    mayChange s 0xFF40 0xFF45 = false ∧ mayChange s 0xFF46 0xC000 = false ∧ mayChange s 0xFFFF 0x0000 = false := by
  decide +kernel

/-- The ends of the outside devices' port ranges, and an environment with and without a listed answer. -/
theorem test_witness_ReadsKeepState :
    isExternal 0xFF0F = false ∧ isExternal 0xFF10 = true ∧ isExternal 0xFF3F = true ∧ isExternal 0xFF40 = false ∧
    ({ quiet with ioIn := [0x5A] } : Env).ioIn = 0x5A :: [] ∧ quiet.ioIn = [] := by decide +kernel

/-- A form that stores nothing and reads no outside device, and one that reads one. -/
theorem test_witness_DeviceFrame :
    storesTo State.reset .ldBAtHl = [] ∧ (∀ x ∈ readsFrom State.reset .ldBAtHl, isExternal x = false) ∧
    storesTo State.reset (.ldhAAtN 0x10) = [] ∧
    (readsFrom State.reset (.ldhAAtN 0x10)).map (fun x => isExternal x) = [true] :=
  ⟨by decide, each (by decide), by decide, by decide⟩

/-- The three cases of an LCDC write. -/
theorem test_witness_PortWrites :
    (display 0 0).lcdc.getLsbD 7 = true ∧ (0x7F : Byte).getLsbD 7 = false ∧
    State.reset.lcd.lcdc.getLsbD 7 = false ∧ (0x80 : Byte).getLsbD 7 = true ∧
    State.reset.lcd.lcdc.getLsbD 7 = (0x7F : Byte).getLsbD 7 := by decide

/-- The first and the last source byte, and one of the page 0xFF that no outside device answers. -/
theorem test_witness_OamCopy :
    isExternal (join 0xC0 0 + BitVec.ofNat 16 0) = false ∧ isExternal (join 0xC0 0 + BitVec.ofNat 16 159) = false ∧
    isExternal (join 0xFF 0 + BitVec.ofNat 16 4) = false ∧ (0xFE : Byte) ≠ 0xFF := by decide

theorem test_witness_RomWindows :
    (image 0x00 2 0 []).cfg.kind = .direct ∧ (image 0x00 2 0 []).cfg.ramSize = 0 ∧
    (image 0x08 2 0x2000 []).cfg.kind = .direct ∧ (image 0x08 2 0x2000 []).cfg.ramSize ≠ 0 ∧
    (0x7FFF : Word).toNat < 0x8000 ∧ 0x4000 ≤ (0x4000 : Word).toNat ∧ (0x3FFF : Word).toNat < 0x4000 ∧
    (0xA000 ≤ (0xBFFF : Word).toNat ∧ (0xBFFF : Word).toNat < 0xC000) := by decide

/-- The bank registers after a write to the first and to the last address of a control range. -/
def ends (s : State) (first last : Word) (v : Byte) : Cart × Cart :=
  ((s.busWrite first v).cart, (s.busWrite last v).cart)

/-- The address is in the cartridge RAM window. -/
def inWindow (a : Word) : Bool := decide (0xA000 ≤ a.toNat ∧ a.toNat < 0xC000)

/-- An MBC1 with its RAM enabled and one with it disabled; what a write to either end of each control range
sets; the ends of the window. -/
theorem test_witness_Mbc1 : let s := image 0x03 128 0x8000 []
    s.cfg.kind = .mbc1 ∧ s.cart.ramEn = false ∧ (s.busWrite 0x0000 0x0A).cart.ramEn = true ∧ s.cfg.ramSize ≠ 0 ∧
    (image 0x01 4 0 []).cfg.kind = .mbc1 ∧ (image 0x01 4 0 []).cfg.ramSize = 0 ∧
    (let on := { s.cart with ramEn := true }; ends s 0x0000 0x1FFF 0x1A = (on, on)) ∧
    (let c := { s.cart with bank1 := 0x13 }; ends s 0x2000 0x3FFF 0xF3 = (c, c)) ∧
    ends s 0x2000 0x3FFF 0xE0 = (s.cart, s.cart) ∧
    (let c := { s.cart with bank2 := 2 }; ends s 0x4000 0x5FFF 0x06 = (c, c)) ∧
    (let c := { s.cart with mbc1Mode := true }; ends s 0x6000 0x7FFF 0xFF = (c, c)) ∧
    inWindow 0xA000 = true ∧ inWindow 0xBFFF = true := by decide +kernel

theorem test_witness_Mbc1Quirk : let s := image 0x03 128 0x8000 []
    s.cfg.kind = .mbc1 ∧ 0x2000 ≤ (0x3FFF : Word).toNat ∧ (0x3FFF : Word).toNat < 0x4000 ∧
    (0xE0 : Byte).toNat % 32 = 0 ∧ s.cart.mbc1Mode = false ∧ s.cart.bank2 = 0 := by decide

/-- An MBC3 that shows RAM, its first and last clock register, and nothing, either side of both; the latch's
condition; what a write to either end of each control range sets. -/
theorem test_witness_Mbc3 : let s := (image 0x10 128 0x8000 []).busWrite 0x0000 0x0A
    s.cfg.kind = .mbc3 ∧ s.cart.ramEn = true ∧ s.cfg.ramSize ≠ 0 ∧ s.cfg.hasRtc = true ∧
    [0x00, 0x03, 0x04, 0x07, 0x08, 0x0C, 0x0D, 0x0F].map (fun v => (s.busWrite 0x4000 v).cart.ramSel) =
      [0, 3, 4, 7, 8, 0xC, 0xD, 0xF] ∧
    [0x04, 0x07, 0x0D, 0x0F].map (fun v => (s.busWrite 0x4000 v).busRead 0xA000) = [0xFF, 0xFF, 0xFF, 0xFF] ∧
    (s.busWrite 0x6000 0x00).cart.rtcLatchPrev = 0 ∧ (image 0x11 2 0 []).cfg.hasRtc = false ∧
    (let c := { s.cart with ramEn := false }; ends s 0x0000 0x1FFF 0x00 = (c, c)) ∧
    (let c := { s.cart with romBank := 0x73 }; ends s 0x2000 0x3FFF 0xF3 = (c, c)) ∧
    (let c := { s.cart with ramSel := 9 }; ends s 0x4000 0x5FFF 0x19 = (c, c)) ∧
    (let c := { s.cart with rtcLatchPrev := 0x7F }; ends s 0x6000 0x7FFF 0x7F = (c, c)) := by decide +kernel

/-- An MBC5 with its RAM enabled and disabled, and one without; what a write to either end of each control range
sets. -/
theorem test_witness_Mbc5 : let s := image 0x1B 512 0x20000 []
    s.cfg.kind = .mbc5 ∧ s.cart.ramEn = false ∧ s.cfg.ramSize ≠ 0 ∧ (image 0x19 2 0 []).cfg.ramSize = 0 ∧
    (let c := { s.cart with ramEn := true }; ends s 0x0000 0x1FFF 0x0A = (c, c)) ∧
    (let c := { s.cart with romBank := 0 }; ends s 0x2000 0x2FFF 0x00 = (c, c)) ∧
    (let c := { s.cart with romBank := 0x101 }; ends s 0x3000 0x3FFF 0xFF = (c, c)) ∧
    (let c := { s.cart with ramSel := 0xF }; ends s 0x4000 0x5FFF 0xFF = (c, c)) ∧
    ends s 0x6000 0x7FFF 0xFF = (s.cart, s.cart) := by decide +kernel

theorem test_witness_TimerCounts : ({ noTimer with divCnt := 255 } : Timer).divCnt < 256 ∧
    noTimer.tac.getLsbD 2 = false := by decide

/-- The fastest restart and the slowest. -/
theorem test_witness_CounterOverflows :
    let t : Timer := { noTimer with tac := 0x05, tma := 0xFF, tima := 0xFF }
    let u : Timer := { noTimer with tac := 0x04 }
    t.tac.getLsbD 2 = true ∧ t.tima = t.tma ∧ t.timaCnt = 0 ∧ u.tac.getLsbD 2 = true ∧ u.tima = u.tma := by decide

theorem test_witness_FrameStructure : let d := display 0x78 0
    d.lcdc.getLsbD 7 = true ∧ d.ly = 0 ∧ d.dot = 0 ∧ d.mode = .searchOam := by decide

/-- A display within its invariants at the last dot of line 143, and one that is off. -/
theorem test_witness_DisplayRequests :
    let d : Lcd := { display 0x78 0 with ly := 143, dot := 455, mode := .hblank }
    d.Inv ∧ d.lcdc.getLsbD 7 = true ∧ State.reset.lcd.lcdc.getLsbD 7 = false :=
  ⟨⟨by decide, by decide, by decide, by decide, by decide, by decide⟩, by decide, by decide⟩

/-- An instruction of three bytes after a wake with IME 0 and a request pending. -/
def woken : State :=
  { start 0xC000 [0x01, 0x34, 0xF2] with
    cpu := { zeros 0xC000 with halted := true }, irq := { flags := 0x01, enable := 0x01 } }

theorem test_witness_StepRunsDecoded :
    woken.powered = true ∧ woken.cfg.accepted = true ∧ woken.env.powerOffNow = false ∧
    woken.cpu.haltbugLatch = false ∧ ¬(woken.cpu.ime = true ∧ woken.pending ≠ 0) ∧
    (woken.cpu.halted = true → woken.pending ≠ 0) ∧
    decode [woken.busRead woken.cpu.pc, woken.busRead (woken.cpu.pc + 1), woken.busRead (woken.cpu.pc + 2)] =
      .ok (.ldBcNn 0xF234, []) ∧
    (∀ k, k < (encode (.ldBcNn 0xF234)).length → isExternal (woken.cpu.pc + BitVec.ofNat 16 k) = false) := by decide

/-- A fetch from the port of an outside device, whose next answers are the bytes of `LD A,0x5A`. -/
theorem test_witness_StepRunsDecoded_ports :
    let s : State := { State.reset with
      cpu := zeros 0xFF10, env := { quiet with ioIn := [0x3E, 0x5A] } }
    decode s.fetchBytes.1 = .ok (.ldAN 0x5A, []) ∧ s.fetchBytes.2.cpu.pc = 0xFF12 ∧
    s.fetchBytes.2.env.ioIn = [] ∧ after s (fun t => t.cpu.a = 0x5A) = true := by decide +kernel

/-- The same bytes under the latch: the byte at PC is the low byte of the immediate too. -/
def latched : State :=
  { start 0xC000 [0x01, 0xF2] with cpu := { zeros 0xC000 with haltbugLatch := true } }

theorem test_witness_HaltBugStep :
    latched.powered = true ∧ latched.cfg.accepted = true ∧ latched.env.powerOffNow = false ∧
    latched.cpu.haltbugLatch = true ∧ latched.cpu.ime = false ∧ latched.cpu.halted = false ∧
    decode [latched.busRead latched.cpu.pc, latched.busRead latched.cpu.pc, latched.busRead (latched.cpu.pc + 1)] =
      .ok (.ldBcNn 0xF201, []) ∧
    isExternal latched.cpu.pc = false ∧ isExternal (latched.cpu.pc + 1) = false := by decide

/-- The last source alone, from the halted state. -/
theorem test_witness_InterruptDispatch :
    let s : State := { woken with cpu := { woken.cpu with ime := true }, irq := { flags := 0x1F, enable := 0xF0 } }
    s.powered = true ∧ s.cfg.accepted = true ∧ s.env.powerOffNow = false ∧ s.cpu.ime = true ∧
    (s.irq.enable.extractLsb' 0 5 &&& s.irq.flags).getLsbD 4 = true ∧
    (∀ m, m < 4 → (s.irq.enable.extractLsb' 0 5 &&& s.irq.flags).getLsbD m = false) := by decide

/-- Halted with nothing enabled pending, and `woken`, which has a request. -/
theorem test_witness_HaltedSteps : let s : State := { woken with irq := { flags := 0x1F, enable := 0xE0 } }
    s.powered = true ∧ s.cfg.accepted = true ∧ s.env.powerOffNow = false ∧ s.cpu.halted = true ∧ s.pending = 0 ∧
    woken.cpu.halted = true ∧ woken.cpu.ime = false ∧ woken.pending ≠ 0 := by decide

/-- The environment asks for the power-off. -/
def switchedOff : State := { State.reset with env := { State.reset.env with steps := [⟨true, false, false⟩] } }

/-- A state of whose next state anything holds has one. -/
theorem answers {s : State} {p : State → Bool} (h : after s p = true) : ∃ t, step s = .next t := by
  unfold after at h
  cases hs : step s with
  | next t => exact ⟨t, rfl⟩
  | fault r => rw [hs] at h; cases h
  | refused r => rw [hs] at h; cases h

/-- A step with a next state that is no power-off, one that is, one refused and one that faults. -/
theorem test_witness_steps :
    (∃ t, step (start 0xC000 [0x00]) = .next t) ∧ (start 0xC000 [0x00]).env.powerOffNow = false ∧
    (∃ r, step (start 0xC000 [0xD3]) = .fault r) ∧ (∃ t, step switchedOff = .next t) ∧
    (image 0x05 2 0 []).powered = true := by
  refine ⟨answers (p := fun _ => true) (by decide), rfl, ⟨_, by rfl⟩, answers (p := fun _ => true) (by decide), rfl⟩

/-- The power-off step: only `powered` changes, and the input of the step is used up. -/
theorem test_witness_PowerAndRefusals :
    switchedOff.powered = true ∧ switchedOff.cfg.accepted = true ∧ switchedOff.env.powerOffNow = true ∧
    after switchedOff (fun t =>
      t = { State.reset with powered := false, env := { State.reset.env with stepCount := 1 } }) = true := by
  decide +kernel

/-- A listed input that requests both, and the outer step after it. -/
theorem test_witness_DevicesAdvance :
    let e : Env := { quiet with steps := [⟨true, true, true⟩, ⟨false, false, false⟩] }
    e.steps = ⟨true, true, true⟩ :: [⟨false, false, false⟩] ∧ e.extIrq = 0b11000 ∧ e.powerOffNow = true ∧
    e.tookStep.extIrq = 0 ∧ e.tookStep.powerOffNow = false := by decide

/-- A state other than reset that meets the invariant: the display on, a pending EI, a byte stored. -/
theorem test_witness_StepKeepsInv :
    let s : State := { waiting with lcd := display 0x78 0, hram := [(0x7E, 0x01)] }
    s.Inv ∧ ∃ t, step s = .next t := by
  refine ⟨⟨⟨by decide, by decide⟩, ⟨by decide, by decide⟩, ⟨by decide, by decide, by decide, by decide, by decide,
    by decide⟩, ⟨by decide, by decide⟩, ⟨by decide, by decide, by decide, by decide, by decide⟩⟩, answers (p := fun _ => true) (by decide)⟩

/-- A power-on with the clock, whose first answer is the clock copy, and one without. -/
theorem test_witness_ResetValues :
    let e : Env := { State.reset.env with rtcIn := [⟨0x3B, 0x3B, 0x17, 0xFF, 0x01⟩] }
    let p : PowerOn := ⟨(image 0x10 2 0 []).cfg, resetRecord, [], [], [], [], [], e⟩
    p.record = resetRecord ∧ p.cfg.hasRtc = true ∧
    (State.powerOn p).cart.rtc = ⟨0x3B, 0x3B, 0x17, 0xFF, 0x01⟩ ∧ (State.powerOn p).env = State.reset.env ∧
    ({ p with cfg := (image 0x11 2 0 []).cfg } : PowerOn).cfg.hasRtc = false := by decide

end Sys2Proof.Tests
end

/-! ## Decoding and executing an illegal byte (30_encoding.md R114, 46_misc.md R305) -/

section
namespace Sys2Proof

/-- The byte an `illegal` carries; no other instruction has one. -/
def Instr.illegalByte? : Instr → Option Byte
  | .illegal op => some op
  | _ => none

/-- Which entries of a row are illegal does not depend on the operand bytes. -/
theorem primaryRow_map_illegalByte? (op n : Byte) (nn : Word) (row : Nat) :
    (primaryRow op n nn row).map Instr.illegalByte? = (primaryRow op 0 0 row).map Instr.illegalByte? := by
  unfold primaryRow
  split <;> rfl

theorem decodePrimary_illegalByte?_operands (op n : Byte) (nn : Word) :
    (decodePrimary op n nn).illegalByte? = (decodePrimary op 0 0).illegalByte? := by
  unfold decodePrimary
  rw [← List.getD_map (f := Instr.illegalByte?), ← List.getD_map (f := Instr.illegalByte?),
    primaryRow_map_illegalByte?]

theorem decodePrimary_illegalByte?_zero : ∀ op : Byte,
    (decodePrimary op 0 0).illegalByte? = if op ∈ illegalBytes then some op else none := by decide

theorem decodeCb_illegalByte? : ∀ op2 : Byte, (decodeCb op2).illegalByte? = none := by decide

/-- The first byte alone tells whether an illegal byte was decoded: just the eleven are, as themselves. -/
theorem decodeBytes_illegalByte? (b0 b1 b2 : Byte) :
    (decodeBytes b0 b1 b2).illegalByte? = if b0 ∈ illegalBytes then some b0 else none := by
  by_cases hcb : b0 = 0xCB
  · subst hcb
    exact decodeCb_illegalByte? b1
  · rw [decodeBytes, if_neg hcb, decodePrimary_illegalByte?_operands, decodePrimary_illegalByte?_zero]

namespace Machine

/-- A conditional transfer answers a next state, taken or not (R280). -/
theorem branch_ne_fault (cc : Cond) (taken : State) (costTaken costNot : Nat) (s : State) (r : Fault) :
    branch cc taken costTaken costNot s ≠ .fault r := by
  unfold branch
  split <;> nofun

/-- Only an illegal byte's meaning faults, and the fault names the address noted at the fetch. -/
theorem exec_fault_cases {i : Instr} {s : State} {r : Fault} (h : exec i s = .fault r) :
    ∃ op, i.illegalByte? = some op ∧ r = .illegalOpcode s.opAddr op := by
  cases i with
  | illegal op =>
    cases h
    exact ⟨op, rfl, rfl⟩
  | jrNzE _ | jrZE _ | jrNcE _ | jrCE _ | jpNzNn _ | jpZNn _ | jpNcNn _ | jpCNn _
  | callNzNn _ | callZNn _ | callNcNn _ | callCNn _ | retNz | retZ | retNc | retC =>
    exact absurd h (branch_ne_fault _ _ _ _ _ _)
  | _ => cases h

end Machine
end Sys2Proof
end

/-! ## The fetch and the parts of the CPU phase before it -/

section
namespace Sys2Proof.Machine

variable (s : State)

@[simp] theorem State.fetchFrom_opAddr (n : Nat) : (State.fetchFrom n s).2.opAddr = s.opAddr := by
  induction n generalizing s with
  | zero => rfl
  | succ n ih => simp only [State.fetchFrom, ih, State.afterFetch8_opAddr]

@[simp] theorem State.fetchBytes_opAddr : s.fetchBytes.2.opAddr = s.cpu.pc := by
  simp only [State.fetchBytes, State.fetchFrom_opAddr, State.afterFetch8_opAddr, State.markOpcode_opAddr]

@[simp] theorem State.fetchBytes_first : s.fetchBytes.1.getD 0 0 = s.busRead s.cpu.pc := rfl

@[simp] theorem State.wake_pc : s.wake.cpu.pc = s.cpu.pc := by
  unfold State.wake
  split <;> rfl

@[simp] theorem State.wake_busRead (a : Word) : s.wake.busRead a = s.busRead a := by
  unfold State.wake
  split
  · exact s.busRead_setCpu a _ _ _ _
  · rfl

@[simp] theorem State.promoteEi_pc : s.promoteEi.cpu.pc = s.cpu.pc := by
  unfold State.promoteEi
  split <;> rfl

@[simp] theorem State.promoteEi_busRead (a : Word) : s.promoteEi.busRead a = s.busRead a := by
  unfold State.promoteEi
  split
  · exact s.busRead_setCpu a _ _ _ _
  · rfl

end Sys2Proof.Machine
end

/-! ## The one synchronous fault (60_exceptions.md R335) -/

section
namespace Sys2Proof.Machine

variable {s : State} {r : Fault}

/-- An instruction that faults is an illegal byte, and the fault carries PC and the byte there. -/
theorem State.executeInstruction_fault (h : s.executeInstruction = .fault r) :
    r = .illegalOpcode s.cpu.pc (s.busRead s.cpu.pc) ∧ s.busRead s.cpu.pc ∈ illegalBytes := by
  obtain ⟨op, hop, hr⟩ := exec_fault_cases h
  rw [decodeBytes_illegalByte?, State.fetchBytes_first] at hop
  obtain ⟨hmem, hbyte⟩ := Option.ite_none_right_eq_some.mp hop
  cases hbyte
  exact ⟨by rw [hr, State.fetchBytes_opAddr], hmem⟩

/-- A dispatch and an idle step never fault: a faulting phase runs an instruction. -/
theorem State.awakePhase_fault (h : s.awakePhase = .fault r) : s.promoteEi.executeInstruction = .fault r := by
  obtain ⟨_, _, hd⟩ | ⟨_, _, hi⟩ | ⟨_, _, he⟩ := s.awakePhase_cases
  · rw [hd] at h
    cases h
  · rw [hi] at h
    cases h
  · rwa [he] at h

/-- Settles O56: a fault comes from the CPU phase (`step_fault_cases`), there from an instruction
(`State.awakePhase_fault`), and what runs before the fetch changes neither PC nor the byte read there. -/
theorem onlyIllegalOpcodeFaults : Obligations.OnlyIllegalOpcodeFaults := by
  intro s r h
  have hphase : s.wake.awakePhase = .fault r := step_fault_cases h
  simpa using State.executeInstruction_fault (State.awakePhase_fault hphase)

end Sys2Proof.Machine
end

/-! ## What executing an instruction can do (the frame of exec, said once) -/

section
namespace Sys2Proof.Machine

open Forms

/-- The interrupt and halt latches of `c` are those of `d` unless `i` is one of the few instructions that
write them. -/
structure Cpu.KeepsLatches (i : Instr) (c d : Cpu) : Prop where
  interrupt : writesIme i = false → c.ime = d.ime ∧ c.eiPending = d.eiPending
  halt : writesHalt i = false → c.halted = d.halted ∧ c.haltbugLatch = d.haltbugLatch

theorem Cpu.KeepsLatches.refl (i : Instr) (c : Cpu) : c.KeepsLatches i c :=
  ⟨fun _ => ⟨rfl, rfl⟩, fun _ => ⟨rfl, rfl⟩⟩

theorem Cpu.KeepsLatches.trans {i : Instr} {b c d : Cpu} (hbc : b.KeepsLatches i c) (hcd : c.KeepsLatches i d) :
    b.KeepsLatches i d where
  interrupt hi := by
    obtain ⟨hime, hei⟩ := hbc.interrupt hi
    obtain ⟨hime', hei'⟩ := hcd.interrupt hi
    exact ⟨hime.trans hime', hei.trans hei'⟩
  halt hi := by
    obtain ⟨hhalted, hlatch⟩ := hbc.halt hi
    obtain ⟨hhalted', hlatch'⟩ := hcd.halt hi
    exact ⟨hhalted.trans hhalted', hlatch.trans hlatch'⟩

/-- `i`, started in `s`, may pass through this state: CPU registers and the cost are written, bytes are read
from the addresses of `readsFrom` and stored to those of `storesTo`, and nothing else happens. -/
inductive Reaches (i : Instr) (s : State) : State → Prop
  | start : Reaches i s s
  | cpu {t : State} (c : Cpu) (n : Nat) : c.KeepsLatches i t.cpu → Reaches i s t →
      Reaches i s { t with cpu := c, cost := n }
  | read {t : State} {a : Word} : a ∈ readsFrom s i → Reaches i s t → Reaches i s (t.afterRead a)
  | write {t : State} {a : Word} (v : Byte) : a ∈ storesTo s i → Reaches i s t → Reaches i s (t.busWrite a v)

/-- Every cost is one of these (70_reset_and_hazards.md R486). -/
def costs : List Nat := [4, 8, 12, 16, 20, 24]

/-- What the next state of an instruction is known to be. -/
structure Answers (i : Instr) (s t : State) : Prop where
  reaches : Reaches i s t
  cost : t.cost ∈ costs

theorem Answers.of_reaches {i : Instr} {s t : State} (h : Reaches i s t) (hc : costs.elem t.cost = true) :
    Answers i s t :=
  ⟨h, List.mem_of_elem_eq_true hc⟩

namespace Reaches

variable {i : Instr} {s t : State}

theorem setReg (h : Reaches i s t) (r : Reg8) (v : Byte) : Reaches i s (t.setReg r v) := by
  cases r <;> exact h.cpu _ t.cost ⟨fun _ => ⟨rfl, rfl⟩, fun _ => ⟨rfl, rfl⟩⟩

theorem setAF (h : Reaches i s t) (a : Byte) (f : Flags) : Reaches i s (t.setAF a f) :=
  h.cpu _ t.cost ⟨fun _ => ⟨rfl, rfl⟩, fun _ => ⟨rfl, rfl⟩⟩

theorem setFlags (h : Reaches i s t) (f : Flags) : Reaches i s (t.setFlags f) :=
  h.setAF t.cpu.a f

theorem setHl (h : Reaches i s t) (v : Word) : Reaches i s (t.setHl v) :=
  (h.setReg .h (hiByte v)).setReg .l (loByte v)

theorem setPc (h : Reaches i s t) (v : Word) : Reaches i s (t.setPc v) :=
  h.cpu _ t.cost ⟨fun _ => ⟨rfl, rfl⟩, fun _ => ⟨rfl, rfl⟩⟩

theorem setSp (h : Reaches i s t) (v : Word) : Reaches i s (t.setSp v) :=
  h.cpu _ t.cost ⟨fun _ => ⟨rfl, rfl⟩, fun _ => ⟨rfl, rfl⟩⟩

theorem setReg16 (h : Reaches i s t) (r : Reg16) (v : Word) : Reaches i s (t.setReg16 r v) := by
  cases r <;> exact h.cpu _ t.cost ⟨fun _ => ⟨rfl, rfl⟩, fun _ => ⟨rfl, rfl⟩⟩

theorem setStackPair (h : Reaches i s t) (q : StackPair) (v : Word) : Reaches i s (t.setStackPair q v) := by
  cases q
  case af => exact h.setAF _ _
  all_goals exact h.cpu _ t.cost ⟨fun _ => ⟨rfl, rfl⟩, fun _ => ⟨rfl, rfl⟩⟩

theorem report (h : Reaches i s t) (n : Nat) : Reaches i s (t.report n) := h.cpu _ n (.refl _ _)

/-- Reading an operand is a read at HL or nothing. -/
theorem afterOperand {o : Operand8} (h : Reaches i s t) (hr : o = .atHl → t.hl ∈ readsFrom s i) :
    Reaches i s (t.afterOperand o) := by
  cases o with
  | reg _ => exact h
  | atHl => exact h.read (hr rfl)

/-- Writing an operand is a store at HL or a register written. -/
theorem setOperand {o : Operand8} (h : Reaches i s t) (v : Byte) (hw : o = .atHl → t.hl ∈ storesTo s i) :
    Reaches i s (t.setOperand o v) := by
  cases o with
  | reg r => exact h.setReg r v
  | atHl => exact h.write v (hw rfl)

end Reaches
end Sys2Proof.Machine
end

/-! ## The frame of every instruction -/

section
namespace Sys2Proof.Machine

open Forms

@[simp] theorem State.afterOperand_hl (s : State) (o : Operand8) : (s.afterOperand o).hl = s.hl := by
  cases o with
  | reg _ => rfl
  | atHl => simp only [State.afterOperand, State.hl, State.afterRead_cpu]

namespace Reaches

variable {i : Instr} {s t : State} {o : Operand8}

/-- A push stores the two bytes below SP. -/
theorem push16 (v : Word) (hw : storesTo s i = [s.cpu.sp - 1, s.cpu.sp - 2]) : Reaches i s (s.push16 v) := by
  have hstores : Reaches i s ((s.busWrite (s.cpu.sp - 1) (hiByte v)).busWrite (s.cpu.sp - 2) (loByte v)) :=
    (start.write _ (by simp [hw])).write _ (by simp [hw])
  rw [State.push16_eq]
  exact hstores.cpu _ _ ⟨fun _ => by simp, fun _ => by simp⟩

/-- A pop reads the two bytes at SP. -/
theorem afterPop16 (hr : readsFrom s i = [s.cpu.sp, s.cpu.sp + 1]) : Reaches i s s.afterPop16 := by
  have hreads : Reaches i s ((s.afterRead s.cpu.sp).afterRead (s.cpu.sp + 1)) :=
    (start.read (by simp [hr])).read (by simp [hr])
  rw [State.afterPop16_eq]
  exact hreads.cpu _ _ ⟨fun _ => by simp, fun _ => by simp⟩

theorem call (v : Word) (hw : storesTo s i = [s.cpu.sp - 1, s.cpu.sp - 2]) : Reaches i s (s.call v) :=
  (push16 _ hw).setPc v

theorem ret (hr : readsFrom s i = [s.cpu.sp, s.cpu.sp + 1]) : Reaches i s s.ret :=
  (afterPop16 hr).setPc _

/-- One read of an operand and one write of it. -/
theorem modifyOperand (h : Reaches i s t) (v : Byte) (hr : o = .atHl → t.hl ∈ readsFrom s i)
    (hw : o = .atHl → t.hl ∈ storesTo s i) : Reaches i s ((t.afterOperand o).setOperand o v) :=
  (h.afterOperand hr).setOperand v (by simpa using hw)

theorem rotated (h : Reaches i s t) (op : RotOp) (hr : o = .atHl → t.hl ∈ readsFrom s i)
    (hw : o = .atHl → t.hl ∈ storesTo s i) : Reaches i s (t.rotated op o) :=
  ((h.modifyOperand _ hr hw).setFlags _).report _

theorem bitTested (h : Reaches i s t) (b : BitIndex) (hr : o = .atHl → t.hl ∈ readsFrom s i) :
    Reaches i s (t.bitTested b o) :=
  ((h.afterOperand hr).setFlags _).report _

theorem bitReset (h : Reaches i s t) (b : BitIndex) (hr : o = .atHl → t.hl ∈ readsFrom s i)
    (hw : o = .atHl → t.hl ∈ storesTo s i) : Reaches i s (t.bitReset b o) :=
  (h.modifyOperand _ hr hw).report _

theorem bitSet (h : Reaches i s t) (b : BitIndex) (hr : o = .atHl → t.hl ∈ readsFrom s i)
    (hw : o = .atHl → t.hl ∈ storesTo s i) : Reaches i s (t.bitSet b o) :=
  (h.modifyOperand _ hr hw).report _

/-- The instruction behind 0xCB accesses memory at HL only. -/
theorem cbOperation (h : Reaches i s t) (op2 : Byte) (hr : t.hl ∈ readsFrom s i) (hw : t.hl ∈ storesTo s i) :
    Reaches i s (t.cbOperation op2) := by
  unfold State.cbOperation
  split
  · exact h.rotated _ (fun _ => hr) (fun _ => hw)
  · exact h.bitTested _ (fun _ => hr)
  · exact h.bitReset _ (fun _ => hr) (fun _ => hw)
  · exact h.bitSet _ (fun _ => hr) (fun _ => hw)

end Reaches

theorem Operand8.cost_mem (o : Operand8) {x y : Nat} (hx : x ∈ costs) (hy : y ∈ costs) : o.cost x y ∈ costs := by
  cases o with
  | reg _ => exact hx
  | atHl => exact hy

theorem State.cbOperation_cost (s : State) (op2 : Byte) : (s.cbOperation op2).cost ∈ costs := by
  unfold State.cbOperation
  split
  case h_2 => exact Operand8.cost_mem (x := 8) (y := 12) _ (by decide) (by decide)
  all_goals exact Operand8.cost_mem (x := 8) (y := 16) _ (by decide) (by decide)

/-- 0xCB taken alone reads its second byte and runs the instruction that byte selects (R245). -/
theorem Reaches.prefixCb (s : State) : Reaches .prefixCb s (s.afterFetch8.cbOperation (s.busRead s.cpu.pc)) := by
  have hfetch : Reaches .prefixCb s s.afterFetch8 := by
    rw [State.afterFetch8_eq]
    exact (Reaches.start.read (.head _)).cpu _ _ ⟨fun _ => by simp, nofun⟩
  have hhl : s.afterFetch8.hl = s.hl := by rw [State.afterFetch8_eq]; rfl
  exact hfetch.cbOperation _ (by rw [hhl]; exact .tail _ (.head _)) (by rw [hhl]; exact .head _)

/-- RETI is a return that writes IME too (R290). -/
theorem Reaches.returnFromInterrupt (s : State) : Reaches .reti s s.returnFromInterrupt := by
  have hret : Reaches .reti s s.ret := .ret rfl
  have hlatches : Cpu.KeepsLatches .reti { s.ret.cpu with ime := true, eiPending := false } s.ret.cpu :=
    ⟨nofun, fun _ => ⟨rfl, rfl⟩⟩
  exact hret.cpu _ s.ret.cost hlatches

/-- A conditional transfer answers the taken state or the state it began in (R280). -/
theorem Answers.branch {i : Instr} {s t taken : State} {cc : Cond} {costTaken costNot : Nat}
    (htaken : cc.holds s.cpu.f = true → Reaches i s taken) (hT : costTaken ∈ costs) (hN : costNot ∈ costs)
    (h : branch cc taken costTaken costNot s = .next t) : Answers i s t := by
  unfold Machine.branch at h
  split at h
  · rename_i hcc
    cases h
    exact ⟨(htaken hcc).report _, hT⟩
  · cases h
    exact ⟨Reaches.start.report _, hN⟩

theorem State.haltOperation_eq (s : State) : ∃ halted latch,
    s.haltOperation = { s with cpu := { s.cpu with halted := halted, haltbugLatch := latch } } := by
  unfold State.haltOperation
  split
  · exact ⟨_, true, rfl⟩
  · exact ⟨true, _, rfl⟩

theorem State.enableLater_eq (s : State) : ∃ eiPending,
    s.enableLater = { s with cpu := { s.cpu with eiPending := eiPending } } := by
  unfold State.enableLater
  split
  · exact ⟨_, rfl⟩
  · rename_i hime
    refine ⟨true, ?_⟩
    simp [State.setIme, hime]

/-- A state that differs in the CPU registers and the cost alone. -/
theorem Answers.of_cpu {i : Instr} {s t : State} (ht : t = { s with cpu := t.cpu, cost := t.cost })
    (hl : t.cpu.KeepsLatches i s.cpu) (hc : costs.elem t.cost = true) : Answers i s t :=
  .of_reaches (ht ▸ Reaches.start.cpu t.cpu t.cost hl) hc

/-- The frame of `exec`: an instruction that answers a next state gets there by reads of `readsFrom`, stores
to `storesTo` and writes of CPU registers, at one of the six costs. -/
theorem exec_answers {i : Instr} {s t : State} (h : exec i s = .next t) : Answers i s t := by
  cases i with
  | illegal _ => cases h
  -- 8-bit loads
  | ldBN _ | ldCN _ | ldDN _ | ldEN _ | ldHN _ | ldLN _ | ldAN _ | ldBB | ldBC | ldBD | ldBE | ldBH | ldBL
  | ldBA | ldCB | ldCC | ldCD | ldCE | ldCH | ldCL | ldCA | ldDB | ldDC | ldDD | ldDE | ldDH | ldDL | ldDA
  | ldEB | ldEC | ldED | ldEE | ldEH | ldEL | ldEA | ldHB | ldHC | ldHD | ldHE | ldHH | ldHL | ldHA | ldLB
  | ldLC | ldLD | ldLE | ldLH | ldLL | ldLA | ldAB | ldAC | ldAD | ldAE | ldAH | ldAL | ldAA =>
    cases h
    exact .of_reaches ((Reaches.start.setReg _ _).report _) rfl
  | ldAAtBc | ldAAtDe | ldBAtHl | ldCAtHl | ldDAtHl | ldEAtHl | ldHAtHl | ldLAtHl | ldAAtHl | ldhAAtN _
  | ldhAAtC | ldAAtNn _ =>
    cases h
    exact .of_reaches (((Reaches.start.read (.head _)).setReg _ _).report _) rfl
  | ldAAtHlInc | ldAAtHlDec =>
    cases h
    exact .of_reaches ((((Reaches.start.read (.head _)).setReg _ _).setHl _).report _) rfl
  | ldAtBcA | ldAtDeA | ldAtHlN _ | ldAtHlB | ldAtHlC | ldAtHlD | ldAtHlE | ldAtHlH | ldAtHlL | ldAtHlA
  | ldhAtNA _ | ldhAtCA | ldAtNnA _ =>
    cases h
    exact .of_reaches ((Reaches.start.write _ (.head _)).report _) rfl
  | ldAtHlIncA | ldAtHlDecA =>
    cases h
    exact .of_reaches (((Reaches.start.write _ (.head _)).setHl _).report _) rfl
  -- pairs and the stack
  | ldBcNn _ | ldDeNn _ | ldHlNn _ | ldSpNn _ | incBc | incDe | incHl | incSp | decBc | decDe | decHl
  | decSp =>
    cases h
    exact .of_reaches ((Reaches.start.setReg16 _ _).report _) rfl
  | addHlBc | addHlDe | addHlHl | addHlSp | ldHlSpE _ =>
    cases h
    exact .of_reaches (((Reaches.start.setHl _).setFlags _).report _) rfl
  | addSpE _ =>
    cases h
    exact .of_reaches (((Reaches.start.setSp _).setFlags _).report _) rfl
  | ldSpHl =>
    cases h
    exact .of_reaches ((Reaches.start.setSp _).report _) rfl
  | ldAtNnSp _ =>
    cases h
    exact .of_reaches (((Reaches.start.write _ (.head _)).write _ (.tail _ (.head _))).report _) rfl
  | pushBc | pushDe | pushHl | pushAf =>
    cases h
    exact .of_reaches ((Reaches.push16 _ rfl).report _) rfl
  | popBc | popDe | popHl | popAf =>
    cases h
    exact .of_reaches (((Reaches.afterPop16 rfl).setStackPair _ _).report _) rfl
  -- 8-bit arithmetic and logic
  | addAB | addAC | addAD | addAE | addAH | addAL | addAA | adcAB | adcAC | adcAD | adcAE | adcAH | adcAL
  | adcAA | subB | subC | subD | subE | subH | subL | subA | sbcAB | sbcAC | sbcAD | sbcAE | sbcAH | sbcAL
  | sbcAA | andB | andC | andD | andE | andH | andL | andA | xorB | xorC | xorD | xorE | xorH | xorL
  | xorA | orB | orC | orD | orE | orH | orL | orA | cpB | cpC | cpD | cpE | cpH | cpL | cpA | addAN _
  | adcAN _ | subN _ | sbcAN _ | andN _ | xorN _ | orN _ | cpN _ | rlca | rrca | rla | rra | daa | cpl =>
    cases h
    exact .of_reaches ((Reaches.start.setAF _ _).report _) rfl
  | addAAtHl | adcAAtHl | subAtHl | sbcAAtHl | andAtHl | xorAtHl | orAtHl | cpAtHl =>
    cases h
    exact .of_reaches (((Reaches.start.read (.head _)).setAF _ _).report _) rfl
  | incB | incC | incD | incE | incH | incL | incA | decB | decC | decD | decE | decH | decL | decA =>
    cases h
    exact .of_reaches (((Reaches.start.setReg _ _).setFlags _).report _) rfl
  | incAtHl | decAtHl =>
    cases h
    exact .of_reaches (((Reaches.start.modifyOperand _ (fun _ => .head _) (fun _ => .head _)).setFlags _).report _) rfl
  | scf | ccf =>
    cases h
    exact .of_reaches ((Reaches.start.setFlags _).report _) rfl
  -- behind 0xCB
  | rlcB | rlcC | rlcD | rlcE | rlcH | rlcL | rlcA | rrcB | rrcC | rrcD | rrcE | rrcH | rrcL | rrcA | rlB
  | rlC | rlD | rlE | rlH | rlL | rlA | rrB | rrC | rrD | rrE | rrH | rrL | rrA | slaB | slaC | slaD
  | slaE | slaH | slaL | slaA | sraB | sraC | sraD | sraE | sraH | sraL | sraA | swapB | swapC | swapD
  | swapE | swapH | swapL | swapA | srlB | srlC | srlD | srlE | srlH | srlL | srlA =>
    cases h
    exact .of_reaches (Reaches.start.rotated _ nofun nofun) rfl
  | rlcAtHl | rrcAtHl | rlAtHl | rrAtHl | slaAtHl | sraAtHl | swapAtHl | srlAtHl =>
    cases h
    exact .of_reaches (Reaches.start.rotated _ (fun _ => .head _) (fun _ => .head _)) rfl
  | bitB _ | bitC _ | bitD _ | bitE _ | bitH _ | bitL _ | bitA _ =>
    cases h
    exact .of_reaches (Reaches.start.bitTested _ nofun) rfl
  | bitAtHl _ =>
    cases h
    exact .of_reaches (Reaches.start.bitTested _ (fun _ => .head _)) rfl
  | resB _ | resC _ | resD _ | resE _ | resH _ | resL _ | resA _ =>
    cases h
    exact .of_reaches (Reaches.start.bitReset _ nofun nofun) rfl
  | resAtHl _ =>
    cases h
    exact .of_reaches (Reaches.start.bitReset _ (fun _ => .head _) (fun _ => .head _)) rfl
  | setB _ | setC _ | setD _ | setE _ | setH _ | setL _ | setA _ =>
    cases h
    exact .of_reaches (Reaches.start.bitSet _ nofun nofun) rfl
  | setAtHl _ =>
    cases h
    exact .of_reaches (Reaches.start.bitSet _ (fun _ => .head _) (fun _ => .head _)) rfl
  | prefixCb =>
    cases h
    exact ⟨Reaches.prefixCb s, State.cbOperation_cost _ _⟩
  -- jumps, calls, returns
  | jrE _ | jpNn _ | jpHl =>
    cases h
    exact .of_reaches ((Reaches.start.setPc _).report _) rfl
  | callNn _ | rst00 | rst08 | rst10 | rst18 | rst20 | rst28 | rst30 | rst38 =>
    cases h
    exact .of_reaches ((Reaches.call _ rfl).report _) rfl
  | ret =>
    cases h
    exact .of_reaches ((Reaches.ret rfl).report _) rfl
  | reti =>
    cases h
    exact .of_reaches ((Reaches.returnFromInterrupt s).report _) rfl
  | callNzNn _ | callZNn _ | callNcNn _ | callCNn _ =>
    exact .branch (fun hcc => Reaches.call _ (if_pos hcc)) (by decide) (by decide) h
  | retNz | retZ | retNc | retC =>
    exact .branch (fun hcc => Reaches.ret (if_pos hcc)) (by decide) (by decide) h
  | jrNzE _ | jrZE _ | jrNcE _ | jrCE _ | jpNzNn _ | jpZNn _ | jpNcNn _ | jpCNn _ =>
    exact .branch (fun _ => Reaches.start.setPc _) (by decide) (by decide) h
  -- the CPU latches
  | nop =>
    cases h
    exact .of_reaches (Reaches.start.report _) rfl
  | di =>
    cases h
    exact .of_cpu rfl ⟨nofun, fun _ => ⟨rfl, rfl⟩⟩ rfl
  | ei =>
    obtain ⟨_, he⟩ := s.enableLater_eq
    cases h
    rw [he]
    exact .of_cpu rfl ⟨nofun, fun _ => ⟨rfl, rfl⟩⟩ rfl
  | halt | stop _ =>
    obtain ⟨_, _, he⟩ := s.haltOperation_eq
    cases h
    rw [he]
    exact .of_cpu rfl ⟨fun _ => ⟨rfl, rfl⟩, nofun⟩ rfl

end Sys2Proof.Machine
end

/-! ## The frame of devices, parameters and step inputs -/

section
namespace Sys2Proof.Machine

open Forms

/-- An address is external when its region is. -/
theorem isExternal_eq_false {a : Word} : isExternal a = false ↔ regionOf a ≠ .external := by
  unfold isExternal
  cases regionOf a <;> simp

theorem State.afterRead_of_internal (s : State) {a : Word} (h : isExternal a = false) : s.afterRead a = s :=
  s.afterRead_of_ne (isExternal_eq_false.mp h)

variable {i : Instr} {s t : State}

/-- The parts no instruction changes, whatever it reads and stores. -/
theorem Reaches.fixed (h : Reaches i s t) :
    t.cfg = s.cfg ∧ t.powered = s.powered ∧ t.env.steps = s.env.steps ∧ t.env.stepCount = s.env.stepCount ∧
      t.opAddr = s.opAddr := by
  induction h with
  | start => simp
  | cpu _ _ _ _ ih => exact ih
  | read _ _ ih => simpa using ih
  | write _ _ _ ih => simpa using ih

theorem Env.tookIo_eq (e : Env) : e.tookIo = { e with ioIn := e.tookIo.ioIn, ioCount := e.tookIo.ioCount } := by
  unfold Env.tookIo
  split <;> rfl

/-- Without a store only CPU registers, the cost and the answers of outside devices can change. -/
theorem Reaches.of_storesTo_nil (h : Reaches i s t) (hs : storesTo s i = []) :
    t = { s with
      cpu := t.cpu, cost := t.cost, env := { s.env with ioIn := t.env.ioIn, ioCount := t.env.ioCount } } := by
  induction h with
  | start => rfl
  | cpu c n _ _ ih => exact congrArg (fun u : State => { u with cpu := c, cost := n }) ih
  | @read t a _ _ ih =>
    obtain he | he := t.afterRead_env a <;> rw [State.afterRead_eq, he]
    · exact ih
    · rw [Env.tookIo_eq, ih]
  | write _ ha _ _ => simp [hs] at ha

/-- Without a store and a read of an outside device the environment is untouched. -/
theorem Reaches.env_eq (h : Reaches i s t) (hs : storesTo s i = [])
    (hr : ∀ x ∈ readsFrom s i, isExternal x = false) : t.env = s.env := by
  induction h with
  | start => rfl
  | cpu _ _ _ _ ih => exact ih
  | read ha _ ih => rw [State.afterRead_of_internal _ (hr _ ha), ih]
  | write _ ha _ _ => simp [hs] at ha

/-- Settles O32: the frame of `exec` (`exec_answers`), read off for each part of the state. -/
theorem deviceFrame : Obligations.DeviceFrame := by
  intro i s t h
  obtain ⟨hreach, hcost⟩ := exec_answers h
  obtain ⟨hcfg, hpowered, hsteps, hcount, hop⟩ := hreach.fixed
  exact ⟨hreach.of_storesTo_nil, hreach.env_eq, hcfg, hpowered, hsteps, hcount, hop, hcost⟩

end Sys2Proof.Machine
end

/-! ## What every CPU phase keeps -/

section
namespace Sys2Proof.Machine

/-- A property that one fetch keeps is kept by any number. -/
theorem State.fetchFrom_induction {P : State → Prop} (h : ∀ u, P u → P u.afterFetch8) (n : Nat) {s : State}
    (hs : P s) : P (State.fetchFrom n s).2 := by
  induction n generalizing s with
  | zero => exact hs
  | succ n ih => exact ih (h s hs)

/-- A property of states that looks at neither the CPU registers, the cost, the opcode address nor IF, and that
every read and every store keeps. -/
structure Stable (P : State → Prop) : Prop where
  cpu : ∀ {s : State} (c : Cpu) (n : Nat) (o : Word), P s → P { s with cpu := c, cost := n, opAddr := o }
  requests : ∀ {s : State} (f : BitVec 5), P s → P { s with irq := { s.irq with flags := f } }
  read : ∀ {s : State} (a : Word), P s → P (s.afterRead a)
  write : ∀ {s : State} (a : Word) (v : Byte), P s → P (s.busWrite a v)

namespace Stable

variable {P : State → Prop} {s t : State}

theorem reaches {i : Instr} (hP : Stable P) (h : Reaches i s t) (hs : P s) : P t := by
  induction h with
  | start => exact hs
  | cpu c n _ _ ih => exact hP.cpu c n _ ih
  | read _ _ ih => exact hP.read _ ih
  | write v _ _ ih => exact hP.write _ v ih

theorem afterFetch8 (hP : Stable P) (hs : P s) : P s.afterFetch8 := by
  rw [State.afterFetch8_eq]
  exact hP.cpu _ _ _ (hP.read _ hs)

theorem executeInstruction (hP : Stable P) (h : s.executeInstruction = .next t) (hs : P s) : P t := by
  have hmark : P s.markOpcode := hP.cpu s.cpu s.cost s.cpu.pc hs
  have hfetched := State.fetchFrom_induction (P := P) (fun _ => hP.afterFetch8)
      (instrLength (s.busRead s.cpu.pc) - 1)
      (hP.afterFetch8 hmark)
  exact hP.reaches (exec_answers h).reaches hfetched

theorem wake (hP : Stable P) (hs : P s) : P s.wake := by
  unfold State.wake
  split
  · exact hP.cpu _ _ _ hs
  · exact hs

theorem promoteEi (hP : Stable P) (hs : P s) : P s.promoteEi := by
  unfold State.promoteEi
  split
  · exact hP.cpu _ _ _ hs
  · exact hs

theorem push16 (hP : Stable P) (v : Word) (hs : P s) : P (s.push16 v) := by
  have hstores := hP.write (s.cpu.sp - 2) (loByte v) (hP.write (s.cpu.sp - 1) (hiByte v) hs)
  rw [State.push16_eq]
  exact hP.cpu _ _ _ hstores

theorem takeInterrupt (hP : Stable P) (n : Nat) (hs : P s) : P (s.takeInterrupt n) := by
  have hime : P (s.setIme false false) := hP.cpu _ s.cost s.opAddr hs
  have hclear : P ((s.setIme false false).clearRequest n) := hP.requests _ hime
  have hpush := hP.push16 s.cpu.pc hclear
  exact hP.cpu _ _ _ hpush

/-- A dispatch, an idle step and an instruction keep a stable property. -/
theorem cpuPhase (hP : Stable P) (h : s.cpuPhase = .next t) (hs : P s) : P t := by
  have hwake : P s.wake := hP.wake hs
  obtain ⟨_, _, hd⟩ | ⟨_, _, hi⟩ | ⟨_, _, he⟩ := s.wake.awakePhase_cases
  · have htaken := hP.takeInterrupt (lowestRequest s.wake.pending) hwake
    cases hd.symm.trans h
    exact hP.cpu _ _ _ htaken
  · cases hi.symm.trans h
    exact hP.cpu _ _ _ hwake
  · exact hP.executeInstruction (he.symm.trans h) (hP.promoteEi hwake)

end Stable
end Sys2Proof.Machine
end

/-! ## Power and refusals (10_state.md R33, R38; 63_cartridge.md R421) -/

section
namespace Sys2Proof.Machine

/-- A conditional transfer answers a next state, taken or not (R280). -/
theorem branch_ne_refused (cc : Cond) (taken : State) (costTaken costNot : Nat) (s : State) (r : Refusal) :
    branch cc taken costTaken costNot s ≠ .refused r := by
  unfold branch
  split <;> nofun

/-- Every instruction has a meaning. -/
theorem exec_ne_refused (i : Instr) (s : State) (r : Refusal) : exec i s ≠ .refused r := by
  intro h
  cases i with
  | jrNzE _ | jrZE _ | jrNcE _ | jrCE _ | jpNzNn _ | jpZNn _ | jpNcNn _ | jpCNn _
  | callNzNn _ | callZNn _ | callNcNn _ | callCNn _ | retNz | retZ | retNc | retC =>
    exact absurd h (branch_ne_refused _ _ _ _ _ _)
  | _ => cases h

theorem State.cpuPhase_ne_refused (s : State) (r : Refusal) : s.cpuPhase ≠ .refused r := by
  intro h
  obtain ⟨_, _, hd⟩ | ⟨_, _, hi⟩ | ⟨_, _, he⟩ := s.wake.awakePhase_cases
  · cases hd.symm.trans h
  · cases hi.symm.trans h
  · exact exec_ne_refused _ _ r (he.symm.trans h)

variable {s : State}

theorem step_poweredOff (hp : s.powered = false) : step s = .refused .poweredOff := by
  unfold step State.outerStep
  rw [if_pos hp]

theorem step_malformed (hp : s.powered = true) (ha : s.cfg.accepted = false) :
    step s = .refused .malformedCartridge := by
  unfold step State.outerStep
  rw [if_neg (by simp [hp]), if_pos ha]

theorem step_switchOff (hp : s.powered = true) (ha : s.cfg.accepted = true) (ho : s.env.powerOffNow = true) :
    step s = .next s.switchOff := by
  unfold step State.outerStep
  rw [if_neg (by simp [hp]), if_neg (by simp [ha]), if_pos ho]

theorem step_running (hp : s.powered = true) (ha : s.cfg.accepted = true) (ho : s.env.powerOffNow = false) :
    step s = finishStep s.cpuPhase := by
  unfold step State.outerStep
  rw [if_neg (by simp [hp]), if_neg (by simp [ha]), if_neg (by simp [ho])]

/-- A running machine with a well-formed cartridge is not refused: neither the power-off nor a CPU phase is. -/
theorem step_ne_refused (hp : s.powered = true) (ha : s.cfg.accepted = true) (r : Refusal) :
    step s ≠ .refused r := by
  cases ho : s.env.powerOffNow with
  | true =>
    rw [step_switchOff hp ha ho]
    nofun
  | false =>
    rw [step_running hp ha ho]
    cases hc : s.cpuPhase with
    | next u => nofun
    | fault r => nofun
    | refused q => exact absurd hc (s.cpuPhase_ne_refused q)

/-- The parameters and `powered` are out of reach of reads and stores. -/
theorem stable_cfg_powered (cfg : Config) (p : Bool) : Stable fun s => s.cfg = cfg ∧ s.powered = p where
  cpu _ _ _ h := h
  requests _ h := h
  read _ h := by simpa using h
  write _ _ h := by simpa using h

/-- Settles O57: the refusals from the four ways a step can begin, the parameters and `powered` from
`stable_cfg_powered`. -/
theorem powerAndRefusals : Obligations.PowerAndRefusals := by
  refine ⟨fun s => ⟨step_ne_refused, step_poweredOff, step_malformed⟩, fun s t h => ?_, fun s => step_switchOff⟩
  obtain ⟨hp, _, ⟨ho, rfl⟩ | ⟨ho, u, hu, rfl⟩⟩ := step_next_cases h
  · exact ⟨rfl, by rw [ho]; rfl⟩
  · obtain ⟨hcfg, hpowered⟩ := (stable_cfg_powered s.cfg s.powered).cpuPhase hu ⟨rfl, rfl⟩
    exact ⟨hcfg, by rw [ho]; exact hpowered.trans hp⟩

end Sys2Proof.Machine
end

/-! ## The invariant of every step (10_state.md R43) -/

section
namespace Sys2Proof.Machine

/-! ### The timer -/

theorem timaPeriod_le (tac : Byte) : timaPeriod tac ≤ 1024 := by
  unfold timaPeriod
  split <;> decide

namespace Timer.Inv

variable {t : Timer}

theorem tickDiv (h : t.Inv) : t.tickDiv.Inv := by
  obtain ⟨hdiv, htima⟩ := h
  unfold Timer.tickDiv
  split
  · exact ⟨Nat.zero_lt_succ _, htima⟩
  · rename_i hne
    simp only [divPeriod] at hne
    exact ⟨by simp only; omega, htima⟩

theorem tickTima (h : t.Inv) : t.tickTima.1.Inv := by
  obtain ⟨hdiv, htima⟩ := h
  have hperiod := timaPeriod_le t.tac
  unfold Timer.tickTima
  split
  · split
    · split <;> exact ⟨hdiv, Nat.zero_lt_succ _⟩
    · exact ⟨hdiv, by simp only; omega⟩
  · exact ⟨hdiv, htima⟩

theorem ticks (h : t.Inv) (n : Nat) : (t.ticks n).1.Inv :=
  Timer.ticks_induction (fun _ ht => ht.tickDiv.tickTima) n h

end Timer.Inv

/-! ### The display -/

namespace Lcd.Inv

variable {d : Lcd}

/-! What the invariant asks of a display that is off, and in each mode of one that is on. -/

theorem of_off (hly : d.ly = 0) (hdot : d.dot = 0) (hm : d.mode = .hblank) : d.Inv :=
  ⟨by simp [hly], by simp [hdot], fun _ => ⟨hly, hdot, hm⟩, by simp [hly, hm], by simp [hm], by simp [hm]⟩

theorem of_searchOam (he : d.enabled = true) (hm : d.mode = .searchOam) (hly : d.ly.toNat < 144)
    (hdot : d.dot < 80) : d.Inv :=
  ⟨by omega, by omega, by simp [he], by simp [hm, hly], fun _ => hdot, by simp [hm]⟩

theorem of_transfer (he : d.enabled = true) (hm : d.mode = .transfer) (hly : d.ly.toNat < 144)
    (hdot : 80 ≤ d.dot ∧ d.dot < 252) : d.Inv :=
  ⟨by omega, by omega, by simp [he], by simp [hm, hly], by simp [hm], fun _ => hdot⟩

theorem of_hblank (he : d.enabled = true) (hm : d.mode = .hblank) (hly : d.ly.toNat < 144)
    (hdot : d.dot ≤ 455) : d.Inv :=
  ⟨by omega, hdot, by simp [he], by simp [hm, hly], by simp [hm], by simp [hm]⟩

theorem of_vblank (he : d.enabled = true) (hm : d.mode = .vblank) (hly : 144 ≤ d.ly.toNat ∧ d.ly.toNat ≤ 153)
    (hdot : d.dot ≤ 455) : d.Inv :=
  ⟨hly.2, hdot, by simp [he], by simp [hm, hly.1], by simp [hm], by simp [hm]⟩

/-- Outside VBlank the line is a visible one. -/
theorem visible (h : d.Inv) (hm : d.mode ≠ .vblank) : d.ly.toNat < 144 :=
  Nat.lt_of_not_le fun hle => hm (h.vblank.mpr hle)

/-- A visible line ends in the next one, or in the first line of VBlank. -/
theorem endVisibleLine (he : d.enabled = true) (hly : d.ly.toNat < 144) : d.endVisibleLine.1.Inv := by
  unfold Lcd.endVisibleLine
  simp only
  split
  · rename_i hlast
    exact of_vblank he rfl (by simp only [hlast]; decide) (Nat.zero_le _)
  · rename_i hnext
    exact of_searchOam he rfl (by simp only; bv_omega) (Nat.zero_lt_succ _)

/-- A line of VBlank ends in the next one, or in the first line of the next frame. -/
theorem endVblankLine (he : d.enabled = true) (hm : d.mode = .vblank)
    (hly : 144 ≤ d.ly.toNat ∧ d.ly.toNat ≤ 153) : d.endVblankLine.1.Inv := by
  unfold Lcd.endVblankLine
  simp only
  split
  · exact of_searchOam he rfl (Nat.zero_lt_succ _) (Nat.zero_lt_succ _)
  · rename_i hnext
    exact of_vblank he hm (by simp only; bv_omega) (Nat.zero_le _)

theorem tick (h : d.Inv) : d.tick.1.Inv := by
  have hdot := h.dot
  unfold Lcd.tick
  split
  case isFalse => exact h
  rename_i he
  simp only
  split
  · rename_i hm
    have hly := h.visible (by simp [hm])
    have hlt := h.searchOam hm
    split
    · rename_i heq
      exact of_transfer he rfl hly (by simp only; omega)
    · exact of_searchOam he hm hly (by simp only; omega)
  · rename_i hm
    have hly := h.visible (by simp [hm])
    have hlt := h.transfer hm
    split
    · exact of_hblank he rfl hly (by simp only; omega)
    · exact of_transfer he hm hly (by simp only; omega)
  · rename_i hm
    have hly := h.visible (by simp [hm])
    split
    · exact endVisibleLine he hly
    · exact of_hblank he hm hly (by simp only; omega)
  · rename_i hm
    have hly := h.vblank.mp hm
    split
    · exact endVblankLine he hm ⟨hly, h.ly⟩
    · exact of_vblank he hm ⟨hly, h.ly⟩ (by simp only; omega)

theorem ticks (h : d.Inv) (n : Nat) : (d.ticks n).1.Inv :=
  Lcd.ticks_induction (fun _ => Lcd.Inv.tick) n h

/-- Switching the display off or on begins a frame; any other write of LCDC leaves the position alone. -/
theorem writeLcdc (h : d.Inv) (v : Byte) : (d.writeLcdc v).Inv := by
  unfold Lcd.writeLcdc
  split
  · exact of_off rfl rfl rfl
  · rename_i hon
    exact of_searchOam hon rfl (Nat.zero_lt_succ _) (Nat.zero_lt_succ _)
  · rename_i hoff hon
    refine ⟨h.ly, h.dot, fun hv => h.off ?_, h.vblank, h.searchOam, h.transfer⟩
    cases he : d.enabled
    · rfl
    · exact absurd hv (hoff he)

end Lcd.Inv

/-! ### The bank registers -/

theorem mbc1Bank_ne_zero : ∀ v : Byte, mbc1Bank v ≠ 0 := by decide

theorem mbc3Bank_range : ∀ v : Byte, mbc3Bank v ≠ 0 ∧ (mbc3Bank v).toNat < 128 := by decide

theorem Cart.controlMbc1_bank1 {c : Cart} (h : c.bank1 ≠ 0) (addr : Nat) (v : Byte) :
    (c.controlMbc1 addr v).bank1 ≠ 0 := by
  unfold Cart.controlMbc1
  split
  · exact h
  split
  · exact mbc1Bank_ne_zero v
  split <;> exact h

theorem Cart.controlMbc3_romBank {c : Cart} (h : c.romBank ≠ 0 ∧ c.romBank.toNat < 128) (addr : Nat) (v : Byte) :
    (c.controlMbc3 addr v).romBank ≠ 0 ∧ (c.controlMbc3 addr v).romBank.toNat < 128 := by
  unfold Cart.controlMbc3
  split
  · exact h
  split
  · exact mbc3Bank_range v
  · exact h

/-- The parts of the invariant that speak of the devices' registers. -/
structure State.DeviceInv (s : State) : Prop where
  timer : s.timer.Inv
  lcd : s.lcd.Inv
  cart : s.CartInv

namespace State.DeviceInv

variable {s : State}

theorem latchClock (h : s.DeviceInv) (v : Byte) : (s.latchClock v).DeviceInv := by
  obtain ⟨htimer, hlcd, hcart⟩ := h
  unfold State.latchClock
  split <;> exact ⟨htimer, hlcd, hcart.bank1, hcart.romBank⟩

theorem controlWrite (h : s.DeviceInv) (addr : Nat) (v : Byte) : (s.controlWrite addr v).DeviceInv := by
  have ⟨htimer, hlcd, hcart⟩ := h
  unfold State.controlWrite
  cases hk : s.cfg.kind with
  | direct => exact h
  | mbc1 => exact ⟨htimer, hlcd, ⟨fun _ => Cart.controlMbc1_bank1 (hcart.bank1 hk) _ _,
      fun h3 => (nomatch hk.symm.trans h3)⟩⟩
  | mbc3 =>
    simp only
    split
    · exact ⟨htimer, hlcd, ⟨fun h1 => (nomatch hk.symm.trans h1),
        fun _ => Cart.controlMbc3_romBank (hcart.romBank hk) _ _⟩⟩
    · exact h.latchClock v
  | mbc5 =>
    exact ⟨htimer, hlcd, ⟨fun h1 => (nomatch hk.symm.trans h1), fun h3 => (nomatch hk.symm.trans h3)⟩⟩

theorem writeExt (h : s.DeviceInv) (off : Nat) (v : Byte) : (s.writeExt off v).DeviceInv := by
  obtain ⟨htimer, hlcd, hcart⟩ := h
  unfold State.writeExt
  split <;> exact ⟨htimer, hlcd, hcart.bank1, hcart.romBank⟩

theorem writePort (h : s.DeviceInv) (p : Port) (v : Byte) : (s.writePort p v).DeviceInv := by
  obtain ⟨⟨hdiv, htima⟩, hlcd, hcart⟩ := h
  have ⟨hly, hdot, hoff, hvblank, hsearch, htransfer⟩ := hlcd
  cases p with
  | div => exact ⟨⟨Nat.zero_lt_succ _, htima⟩, hlcd, hcart.bank1, hcart.romBank⟩
  | lcdc => exact ⟨⟨hdiv, htima⟩, hlcd.writeLcdc v, hcart.bank1, hcart.romBank⟩
  | dma =>
    simp only [State.writePort, State.writeDma]
    rw [State.copyToOam_eq]
    exact ⟨⟨hdiv, htima⟩, ⟨hly, hdot, hoff, hvblank, hsearch, htransfer⟩, hcart.bank1, hcart.romBank⟩
  | _ => exact ⟨⟨hdiv, htima⟩, ⟨hly, hdot, hoff, hvblank, hsearch, htransfer⟩, hcart.bank1, hcart.romBank⟩

theorem busWrite (h : s.DeviceInv) (a : Word) (v : Byte) : (s.busWrite a v).DeviceInv := by
  unfold State.busWrite
  cases regionOf a with
  | cartRom n => exact h.controlWrite n v
  | cartRam k => exact h.writeExt k v
  | port p => exact h.writePort p v
  | _ => exact ⟨h.timer, h.lcd, h.cart.bank1, h.cart.romBank⟩

theorem afterRead (h : s.DeviceInv) (a : Word) : (s.afterRead a).DeviceInv := by
  rw [State.afterRead_eq]
  exact ⟨h.timer, h.lcd, h.cart.bank1, h.cart.romBank⟩

end State.DeviceInv

/-- The devices' registers and the memories stay in their invariant over every CPU phase. -/
theorem stable_deviceInv_memInv : Stable fun s => s.DeviceInv ∧ s.MemInv where
  cpu := fun _ _ _ ⟨⟨htimer, hlcd, hcart⟩, hmem⟩ => ⟨⟨htimer, hlcd, hcart.bank1, hcart.romBank⟩,
    hmem.cram, hmem.vram, hmem.wram, hmem.oam, hmem.hram⟩
  requests := fun _ ⟨⟨htimer, hlcd, hcart⟩, hmem⟩ => ⟨⟨htimer, hlcd, hcart.bank1, hcart.romBank⟩,
    hmem.cram, hmem.vram, hmem.wram, hmem.oam, hmem.hram⟩
  read := fun a ⟨hdev, hmem⟩ => ⟨hdev.afterRead a, hmem.afterRead a⟩
  write := fun a v ⟨hdev, hmem⟩ => ⟨hdev.busWrite a v, hmem.busWrite a v⟩

end Sys2Proof.Machine
end

/-! ## The CPU latches over a step, and the invariant of every step (10_state.md R26, R28, R43) -/

section
namespace Sys2Proof.Machine

open Forms

variable {i : Instr} {s t : State}

theorem Reaches.keepsLatches (h : Reaches i s t) : t.cpu.KeepsLatches i s.cpu := by
  induction h with
  | start => exact .refl i _
  | cpu _ _ hc _ ih => exact hc.trans ih
  | read _ _ ih => simpa using ih
  | write _ _ _ ih => simpa using ih

/-- The instruction behind 0xCB, which does to memory what RLC (HL) does, leaves the halt latches alone. -/
theorem State.cbOperation_latch (s : State) (op2 : Byte) :
    (s.cbOperation op2).cpu.haltbugLatch = s.cpu.haltbugLatch := by
  have hreach : Reaches .rlcAtHl s (s.cbOperation op2) := Reaches.start.cbOperation op2 (.head _) (.head _)
  exact (hreach.keepsLatches.halt rfl).2

/-- What the CPU latches meet when a meaning runs: the fetch has cleared `haltbug_latch`. -/
structure Cpu.Running (c : Cpu) : Prop where
  eiPending : c.eiPending = true → c.ime = false
  halted : c.halted = false
  latch : c.haltbugLatch = false

/-- EI asks for IME later only where IME is 0 (R304). -/
theorem Cpu.Running.enableLater (h : s.cpu.Running) : s.enableLater.CpuInv := by
  unfold State.enableLater
  split
  · exact ⟨h.eiPending, fun hl => nomatch h.latch.symm.trans hl⟩
  · exact ⟨fun _ => rfl, fun hl => nomatch h.latch.symm.trans hl⟩

/-- HALT sets `haltbug_latch` only with `HALT_BUG`, and then does not halt (R301). -/
theorem Cpu.Running.haltOperation (h : s.cpu.Running) : s.haltOperation.CpuInv := by
  unfold State.haltOperation
  split
  · rename_i hbug
    exact ⟨h.eiPending, fun _ => ⟨hbug.1, h.halted⟩⟩
  · exact ⟨h.eiPending, fun hl => nomatch h.latch.symm.trans hl⟩

/-- Every instruction, run after its fetch, leaves the latches in their invariant. -/
theorem exec_cpuInv (hr : s.cpu.Running) (h : exec i s = .next t) : t.CpuInv := by
  have hkeep := (exec_answers h).reaches.keepsLatches
  cases i with
  | reti | di =>
    have hlatch := (hkeep.halt rfl).2.trans hr.latch
    cases h
    exact ⟨nofun, fun hl => nomatch hlatch.symm.trans hl⟩
  | ei =>
    cases h
    exact ⟨hr.enableLater.eiPending, hr.enableLater.latch⟩
  | halt | stop _ =>
    cases h
    exact ⟨hr.haltOperation.eiPending, hr.haltOperation.latch⟩
  | prefixCb =>
    obtain ⟨hime, hpending⟩ := hkeep.interrupt rfl
    cases h
    refine ⟨fun he => hime.trans (hr.eiPending (hpending.symm.trans he)), fun hl => ?_⟩
    rw [State.cbOperation_latch, State.afterFetch8_latch] at hl
    cases hl
  | _ =>
    obtain ⟨hime, hpending⟩ := hkeep.interrupt rfl
    have hlatch := (hkeep.halt rfl).2.trans hr.latch
    exact ⟨fun he => hime.trans (hr.eiPending (hpending.symm.trans he)), fun hl => nomatch hlatch.symm.trans hl⟩

/-- The fetch leaves the CPU running: it clears `haltbug_latch` and touches no other latch (R102). -/
theorem Cpu.Running.fetchBytes (hei : s.cpu.eiPending = true → s.cpu.ime = false) (hh : s.cpu.halted = false) :
    s.fetchBytes.2.cpu.Running := by
  have hfirst : s.markOpcode.afterFetch8.cpu.Running := by
    rw [State.afterFetch8_eq]
    exact ⟨hei, hh, rfl⟩
  refine State.fetchFrom_induction (P := fun u => u.cpu.Running) (fun u hu => ?_) _ hfirst
  rw [State.afterFetch8_eq]
  exact ⟨hu.eiPending, hu.halted, rfl⟩

theorem State.CpuInv.wake (h : s.CpuInv) : s.wake.CpuInv := by
  unfold State.wake
  split
  · exact ⟨h.eiPending, fun hl => ⟨(h.latch hl).1, rfl⟩⟩
  · exact h

theorem State.takeInterrupt_cpu (n : Nat) : (s.takeInterrupt n).cpu = { s.cpu with
    pc := interruptVector n, sp := s.cpu.sp - 2, ime := false, eiPending := false } := by
  simp [State.takeInterrupt, State.push16_eq]

theorem State.takeInterrupt_cfg (n : Nat) : (s.takeInterrupt n).cfg = s.cfg := by
  simp [State.takeInterrupt, State.push16_eq]

theorem State.CpuInv.takeInterrupt (h : s.CpuInv) (n : Nat) : (s.takeInterrupt n).CpuInv := by
  constructor
  · rw [State.takeInterrupt_cpu]
    nofun
  · rw [State.takeInterrupt_cpu, State.takeInterrupt_cfg]
    exact h.latch

/-- A pending EI is carried out before the fetch (R304), so an instruction runs with none pending. -/
theorem State.promoteEi_eiPending : s.promoteEi.cpu.eiPending = false := by
  unfold State.promoteEi
  split
  · rfl
  · rename_i h
    simpa using h

@[simp] theorem State.promoteEi_halted : s.promoteEi.cpu.halted = s.cpu.halted := by
  unfold State.promoteEi
  split <;> rfl

/-- A dispatch clears IME and a pending EI, an idle step touches no latch, and an instruction is `exec_cpuInv`. -/
theorem State.CpuInv.cpuPhase (hs : s.CpuInv) (h : s.cpuPhase = .next t) : t.CpuInv := by
  have hwake := hs.wake
  obtain ⟨_, _, hd⟩ | ⟨_, _, hi⟩ | ⟨_, hh, he⟩ := s.wake.awakePhase_cases
  · cases hd.symm.trans h
    exact ⟨(hwake.takeInterrupt _).eiPending, (hwake.takeInterrupt _).latch⟩
  · cases hi.symm.trans h
    exact ⟨hwake.eiPending, hwake.latch⟩
  · have hrun : s.wake.promoteEi.fetchBytes.2.cpu.Running :=
      .fetchBytes (fun hei => nomatch State.promoteEi_eiPending.symm.trans hei) (State.promoteEi_halted.trans hh)
    exact exec_cpuInv hrun (he.symm.trans h)

/-- Phases 2 to 4 tick the devices and touch nothing else the invariant speaks of. -/
theorem State.Inv.advance (h : s.Inv) : s.advance.Inv :=
  ⟨⟨h.cpu.eiPending, h.cpu.latch⟩, h.timer.ticks s.cost, h.lcd.ticks s.cost, ⟨h.cart.bank1, h.cart.romBank⟩,
    ⟨h.mem.cram, h.mem.vram, h.mem.wram, h.mem.oam, h.mem.hram⟩⟩

theorem State.Inv.switchOff (h : s.Inv) : s.switchOff.Inv :=
  ⟨⟨h.cpu.eiPending, h.cpu.latch⟩, h.timer, h.lcd, ⟨h.cart.bank1, h.cart.romBank⟩,
    ⟨h.mem.cram, h.mem.vram, h.mem.wram, h.mem.oam, h.mem.hram⟩⟩

theorem State.Inv.cpuPhase (hs : s.Inv) (h : s.cpuPhase = .next t) : t.Inv := by
  obtain ⟨⟨htimer, hlcd, hcart⟩, hmem⟩ :=
    stable_deviceInv_memInv.cpuPhase h ⟨⟨hs.timer, hs.lcd, hs.cart⟩, hs.mem⟩
  exact ⟨hs.cpu.cpuPhase h, htimer, hlcd, hcart, hmem⟩

/-- Settles O58: a step is the power-off, or a CPU phase and then the devices' phases, and each keeps the
invariant. -/
theorem stepKeepsInv : Obligations.StepKeepsInv := by
  intro s t hs h
  obtain ⟨_, _, ⟨_, rfl⟩ | ⟨_, u, hu, rfl⟩⟩ := step_next_cases h
  · exact hs.switchOff
  · exact (hs.cpuPhase hu).advance

end Sys2Proof.Machine
end

/-! ## The register file (10_state.md R20 to R23) -/

section
namespace Sys2Proof.Machine

/-- F keeps the upper four bits of the byte written to it. -/
theorem Flags.toByte_ofByte : ∀ v : Byte, (Flags.ofByte v).toByte = v &&& 0xF0 := by decide

theorem Flags.toByte_low (f : Flags) : f.toByte &&& 0x0F = 0 := by
  rw [← f.ofByte_toByte, Flags.toByte_ofByte, BitVec.and_assoc]
  exact BitVec.and_zero

/-- A mask of the low half of a pair masks its low register. -/
theorem join_and_low (h l m : Byte) : join h (l &&& m) = join h l &&& join 0xFF m := by
  have hh : h &&& 0xFF = h := BitVec.and_allOnes
  calc join h (l &&& m)
    _ = (h &&& 0xFF) ++ (l &&& m) := by rw [hh, join]
    _ = join h l &&& join 0xFF m := BitVec.and_append.symm

variable (s : State)

theorem State.setReg16_reg16 (r q : Reg16) (v : Word) :
    (s.setReg16 r v).reg16 q = if q = r then v else s.reg16 q := by
  cases r <;> cases q <;> simp [State.setReg16, State.reg16, State.bc, State.de, State.hl]

/-- POP reads back what it wrote, but for the low four bits of F (R166). -/
theorem State.setStackPair_stackPair (q : StackPair) (v : Word) :
    (s.setStackPair q v).stackPair q = if q = .af then v &&& 0xFFF0 else v := by
  cases q with
  | af =>
    calc (s.setStackPair .af v).stackPair .af
      _ = join (hiByte v) (loByte v &&& 0xF0) := congrArg (join (hiByte v)) (Flags.toByte_ofByte (loByte v))
      _ = v &&& 0xFFF0 := by rw [join_and_low, join_hiByte_loByte]; rfl
  | _ => exact join_hiByte_loByte v

/-- Settles O28: the registers from `State.setReg_reg`, the pairs from `join_hiByte_loByte`, F from its four
Booleans. -/
theorem registerFile : Obligations.RegisterFile :=
  ⟨State.setReg_reg, fun _ => ⟨rfl, rfl, rfl, rfl⟩, State.setReg16_reg16, State.setStackPair_stackPair,
    Flags.toByte_ofByte, Flags.toByte_low⟩

end Sys2Proof.Machine
end

/-! ## Reset (10_state.md R40 to R43) -/

section
namespace Sys2Proof.Machine

/-- Settles O59: the display is off at its origin, the counters are 0, the bank registers 1, the memories empty. -/
theorem resetMeetsInv : Obligations.ResetMeetsInv where
  cpu := ⟨nofun, nofun⟩
  timer := ⟨by decide, by decide⟩
  lcd := .of_off rfl rfl rfl
  cart := ⟨fun _ => by decide, fun _ => by decide⟩
  mem := ⟨⟨rfl, rfl⟩, ⟨rfl, rfl⟩, ⟨rfl, rfl⟩, ⟨rfl, rfl⟩, ⟨rfl, rfl⟩⟩

/-- F is 0xB0 after the boot program (R40). -/
theorem resetRecord_toByte : resetRecord.cpu.f.toByte = 0xB0 := by decide

variable {p : PowerOn}

/-- Where the cartridge has the clock, one answer of `RtcNow` is taken (R41). -/
theorem State.powerOn_clock (h : p.cfg.hasRtc = true) :
    (State.powerOn p).cart.rtc = p.env.rtcAnswer ∧ (State.powerOn p).env = p.env.tookRtc :=
  ⟨if_pos h, if_pos h⟩

theorem State.powerOn_noClock (h : p.cfg.hasRtc = false) :
    (State.powerOn p).cart.rtc = p.record.cart.rtc ∧ (State.powerOn p).env = p.env :=
  ⟨if_neg (by simp [h]), if_neg (by simp [h])⟩

/-- Settles O60: every part of the power-on state is the parameter's, the clock copy by whether the cartridge has
the clock; the values of R40 and R41 are those of the record. -/
theorem resetValues : Obligations.ResetValues := by
  refine ⟨fun p hp => ?_, fun p => ?_, ?_⟩
  · obtain ⟨cfg, record, cram, vram, wram, oam, hram, env⟩ := p
    subst hp
    refine ⟨rfl, resetRecord_toByte, ?_⟩
    and_intros <;> rfl
  · exact ⟨rfl, rfl, rfl, rfl, rfl, rfl, rfl, State.powerOn_clock, State.powerOn_noClock, rfl, rfl, rfl, rfl, rfl⟩
  · rfl

end Sys2Proof.Machine
end

/-! ## Decoding the bytes a fetch yields (30_encoding.md R100, R102, R116) -/

section
namespace Sys2Proof

theorem instrLength_cases (op : Byte) : instrLength op = 1 ∨ instrLength op = 2 ∨ instrLength op = 3 := by
  unfold instrLength
  split
  · exact .inr (.inr rfl)
  · split
    · exact .inr (.inl rfl)
    · exact .inl rfl

theorem instrLength_range (op : Byte) : 1 ≤ instrLength op ∧ instrLength op ≤ 3 := by
  obtain h | h | h := instrLength_cases op <;> rw [h] <;> decide

/-- Bytes of just the length the first one asks for decode to what `decodeBytes` reads from them. -/
theorem decode_of_length {op : Byte} {rest : List Byte} (h : rest.length + 1 = instrLength op) :
    decode (op :: rest) = .ok (decodeBytes op (rest.getD 0 0) (rest.getD 1 0), []) := by
  unfold decode
  match rest with
  | [] => simp [← h]
  | [_] => simp [← h]
  | [_, _] => simp [← h]
  | _ :: _ :: _ :: _ =>
    have hmax := (instrLength_range op).2
    simp only [List.length_cons] at h
    omega

/-- Bytes past the length of the instruction are not looked at (R116). -/
theorem decode_take {b0 b1 b2 : Byte} {i : Instr} {rest : List Byte} (h : decode [b0, b1, b2] = .ok (i, rest)) :
    decode ([b0, b1, b2].take (instrLength b0)) = .ok (i, []) := by
  obtain hl | hl | hl := instrLength_cases b0
  all_goals
    simp only [decode, hl] at h ⊢
    cases h
    simp [hl]

/-- How long the entries of a row are does not depend on the operand bytes. -/
theorem primaryRow_map_length (op n : Byte) (nn : Word) (row : Nat) :
    (primaryRow op n nn row).map (fun i => (encode i).length) =
      (primaryRow op 0 0 row).map (fun i => (encode i).length) := by
  unfold primaryRow
  split <;> rfl

theorem decodePrimary_length_operands (op n : Byte) (nn : Word) :
    (encode (decodePrimary op n nn)).length = (encode (decodePrimary op 0 0)).length := by
  unfold decodePrimary
  rw [← List.getD_map (f := fun i => (encode i).length), ← List.getD_map (f := fun i => (encode i).length),
    primaryRow_map_length]

theorem decodePrimary_length_zero : ∀ op : Byte, op ≠ 0xCB →
    (encode (decodePrimary op 0 0)).length = instrLength op := by decide

theorem decodeCb_length : ∀ op2 : Byte, (encode (decodeCb op2)).length = 2 := by decide

/-- An instruction is as long as its first byte says (R116). -/
theorem decodeBytes_length (b0 b1 b2 : Byte) : (encode (decodeBytes b0 b1 b2)).length = instrLength b0 := by
  by_cases hcb : b0 = 0xCB
  · subst hcb
    exact decodeCb_length b1
  · rw [decodeBytes, if_neg hcb, decodePrimary_length_operands, decodePrimary_length_zero b0 hcb]

theorem decode_length {b0 b1 b2 : Byte} {i : Instr} {rest : List Byte} (h : decode [b0, b1, b2] = .ok (i, rest)) :
    (encode i).length = instrLength b0 := by
  obtain hl | hl | hl := instrLength_cases b0
  all_goals
    simp only [decode, hl] at h
    cases h
    rw [decodeBytes_length, hl]

end Sys2Proof
end

/-! ## A step that executes an instruction (30_encoding.md R102, 60_exceptions.md R326) -/

section
namespace Sys2Proof.Machine

open Forms

variable {s : State}

/-! ### Before the fetch -/

/-- The state an instruction is fetched in: awake, and a pending EI carried out. -/
def State.awakened (s : State) : State :=
  { s with cpu := { s.cpu with halted := false, ime := s.cpu.ime || s.cpu.eiPending, eiPending := false } }

theorem State.wake_eq (h : s.cpu.halted = true → s.pending ≠ 0) : s.wake = s.setHalted false := by
  unfold State.wake
  split
  · rfl
  · rename_i hw
    have hhalted : s.cpu.halted = false := Bool.eq_false_iff.mpr fun hh => hw ⟨hh, h hh⟩
    calc s
      _ = s.setHalted s.cpu.halted := rfl
      _ = s.setHalted false := by rw [hhalted]

theorem State.promoteEi_eq (s : State) : s.promoteEi = s.setIme (s.cpu.ime || s.cpu.eiPending) false := by
  unfold State.promoteEi
  split
  · rename_i he
    rw [he, Bool.or_true]
  · rename_i he
    rw [Bool.not_eq_true] at he
    calc s
      _ = s.setIme s.cpu.ime s.cpu.eiPending := rfl
      _ = s.setIme (s.cpu.ime || s.cpu.eiPending) false := by rw [he, Bool.or_false]

/-- With neither a dispatch nor an idle step due, a running machine executes the instruction at PC. -/
theorem step_execute (hp : s.powered = true) (ha : s.cfg.accepted = true) (ho : s.env.powerOffNow = false)
    (hd : ¬(s.cpu.ime = true ∧ s.pending ≠ 0)) (hh : s.cpu.halted = true → s.pending ≠ 0) :
    step s = finishStep s.awakened.executeInstruction := by
  have hwake := State.wake_eq hh
  rw [step_running hp ha ho, State.cpuPhase, hwake]
  obtain ⟨hime, hpending, _⟩ | ⟨_, hhalted, _⟩ | ⟨_, _, he⟩ := (s.setHalted false).awakePhase_cases
  · exact absurd ⟨hime, hpending⟩ hd
  · cases hhalted
  · rw [he, State.promoteEi_eq]
    rfl

/-! ### The fetch -/

/-- The bytes fetched are as many as the first one asks for. -/
theorem State.fetchBytes_length (s : State) :
    (State.fetchFrom (instrLength (s.busRead s.cpu.pc) - 1) s.markOpcode.afterFetch8).1.length + 1 =
      instrLength (s.busRead s.cpu.pc) := by
  rw [State.fetchFrom_length, Nat.sub_add_cancel (instrLength_range _).1]

/-- Executing runs the instruction that the bytes fetched decode to. -/
theorem State.executeInstruction_of_decode {i : Instr} (h : decode s.fetchBytes.1 = .ok (i, [])) :
    s.executeInstruction = exec i s.fetchBytes.2 := by
  cases (decode_of_length s.fetchBytes_length).symm.trans h
  rfl

/-- A fetch from inside the block, with no latch set, moves PC by one and changes nothing else. -/
theorem State.afterFetch8_internal (hl : s.cpu.haltbugLatch = false) (hi : isExternal s.cpu.pc = false) :
    s.afterFetch8 = s.setPc (s.cpu.pc + 1) := by
  rw [State.afterFetch8, s.afterRead_of_internal hi, hl]
  rfl

theorem add_one_add_ofNat (a : Word) (k : Nat) : a + 1#16 + BitVec.ofNat 16 k = a + BitVec.ofNat 16 (k + 1) := by
  rw [BitVec.add_assoc, BitVec.add_comm 1#16, ← BitVec.ofNat_add_ofNat]

/-- Fetches from inside the block, with no latch set, yield the bytes at PC and after it. -/
theorem State.fetchFrom_internal (n : Nat) (hl : s.cpu.haltbugLatch = false)
    (hi : ∀ k < n, isExternal (s.cpu.pc + BitVec.ofNat 16 k) = false) :
    State.fetchFrom n s = ((List.range n).map fun k => s.busRead (s.cpu.pc + BitVec.ofNat 16 k),
      s.setPc (s.cpu.pc + BitVec.ofNat 16 n)) := by
  induction n generalizing s with
  | zero => simp [State.fetchFrom, State.setPc]
  | succ n ih =>
    have h0 : isExternal s.cpu.pc = false := by simpa using hi 0 (Nat.zero_lt_succ n)
    have hrest : ∀ k < n, isExternal ((s.setPc (s.cpu.pc + 1)).cpu.pc + BitVec.ofNat 16 k) = false := by
      intro k hk
      simpa [add_one_add_ofNat] using hi (k + 1) (Nat.succ_lt_succ hk)
    rw [State.fetchFrom, State.afterFetch8_internal hl h0, ih (s := s.setPc (s.cpu.pc + 1)) hl hrest]
    simp [State.setPc, add_one_add_ofNat, List.range_succ_eq_map, Function.comp_def]

/-- The state after all bytes are fetched from inside the block, PC left at `p`. -/
def State.fetched (s : State) (p : Word) : State :=
  { s with cpu := { s.cpu with pc := p, haltbugLatch := false }, opAddr := s.cpu.pc }

/-- The bytes of an instruction inside the block: the one at PC, then those from `p` on, which is PC again under
the latch and the address after it otherwise. -/
theorem State.fetchBytes_internal {p : Word} (hp : p = if s.cpu.haltbugLatch then s.cpu.pc else s.cpu.pc + 1)
    (h0 : isExternal s.cpu.pc = false)
    (hi : ∀ k < instrLength (s.busRead s.cpu.pc) - 1, isExternal (p + BitVec.ofNat 16 k) = false) :
    s.fetchBytes =
      ([s.busRead s.cpu.pc, s.busRead p, s.busRead (p + 1)].take (instrLength (s.busRead s.cpu.pc)),
        s.fetched (p + BitVec.ofNat 16 (instrLength (s.busRead s.cpu.pc) - 1))) := by
  have hfirst : s.markOpcode.afterFetch8 = s.fetched p := by
    rw [State.afterFetch8_eq, s.markOpcode.afterRead_of_internal (a := s.markOpcode.cpu.pc) h0, hp]
    rfl
  have hfrom := State.fetchFrom_internal (s := s.fetched p) (instrLength (s.busRead s.cpu.pc) - 1) rfl hi
  simp only [State.fetchBytes, hfirst, hfrom]
  refine Prod.ext ?_ rfl
  have hread (a : Word) : (s.fetched p).busRead a = s.busRead a := rfl
  have hpc : (s.fetched p).cpu.pc = p := rfl
  obtain hl | hl | hl := instrLength_cases (s.busRead s.cpu.pc) <;>
    simp [hl, hread, hpc, List.range_succ]

/-! ### The step -/

/-- The three bytes at PC and from `p` on decode to what the fetch runs. -/
theorem State.executeInstruction_internal {p : Word} {i : Instr} {rest : List Byte}
    (hp : p = if s.cpu.haltbugLatch then s.cpu.pc else s.cpu.pc + 1)
    (hdec : decode [s.busRead s.cpu.pc, s.busRead p, s.busRead (p + 1)] = .ok (i, rest))
    (h0 : isExternal s.cpu.pc = false)
    (hi : ∀ k < (encode i).length - 1, isExternal (p + BitVec.ofNat 16 k) = false) :
    s.executeInstruction = exec i (s.fetched (p + BitVec.ofNat 16 ((encode i).length - 1))) := by
  rw [decode_length hdec] at hi ⊢
  have hfetch := State.fetchBytes_internal hp h0 hi
  have hbytes : decode s.fetchBytes.1 = .ok (i, []) := by
    rw [hfetch]
    exact decode_take hdec
  rw [State.executeInstruction_of_decode hbytes, hfetch]

/-- A step that executes the bytes at PC and from `p` on, all of them inside the block. -/
theorem step_execute_internal {p : Word} {i : Instr} {rest : List Byte}
    (hp : s.powered = true) (ha : s.cfg.accepted = true) (ho : s.env.powerOffNow = false)
    (hd : ¬(s.cpu.ime = true ∧ s.pending ≠ 0)) (hh : s.cpu.halted = true → s.pending ≠ 0)
    (hpc : p = if s.cpu.haltbugLatch then s.cpu.pc else s.cpu.pc + 1)
    (hdec : decode [s.busRead s.cpu.pc, s.busRead p, s.busRead (p + 1)] = .ok (i, rest))
    (h0 : isExternal s.cpu.pc = false)
    (hi : ∀ k < (encode i).length - 1, isExternal (p + BitVec.ofNat 16 k) = false) :
    step s = finishStep (exec i (s.awakened.fetched (p + BitVec.ofNat 16 ((encode i).length - 1)))) := by
  rw [step_execute hp ha ho hd hh]
  exact congrArg finishStep (State.executeInstruction_internal (s := s.awakened) hpc hdec h0 hi)

/-- Settles O51: no dispatch and no idle step being due, the step executes the bytes at PC (`step_execute`); from
inside the block they are the bytes at consecutive addresses (`step_execute_internal`), and from anywhere they are
what `fetchBytes` yields. -/
theorem stepRunsDecoded : Obligations.StepRunsDecoded := by
  refine ⟨fun s i rest hp ha ho hl hd hh hdec hext => ?_, fun s i hp ha ho hd hh hdec => ?_⟩
  · have hpos : 1 ≤ (encode i).length := (decode_length hdec).symm ▸ (instrLength_range _).1
    have h0 : isExternal s.cpu.pc = false := by simpa using hext 0 hpos
    have hrest : ∀ k < (encode i).length - 1, isExternal (s.cpu.pc + 1 + BitVec.ofNat 16 k) = false := by
      intro k hk
      simpa [add_one_add_ofNat] using hext (k + 1) (by omega)
    have hpc : s.cpu.pc + 1 = if s.cpu.haltbugLatch then s.cpu.pc else s.cpu.pc + 1 := by simp [hl]
    have htwo : s.cpu.pc + 2 = s.cpu.pc + 1 + 1 := (add_one_add_ofNat _ 1).symm
    rw [htwo] at hdec
    rw [step_execute_internal hp ha ho hd hh hpc hdec h0 hrest]
    simp [State.fetched, State.awakened, hl, add_one_add_ofNat, Nat.sub_add_cancel hpos]
  · rw [step_execute hp ha ho hd hh]
    exact congrArg finishStep (State.executeInstruction_of_decode hdec)

/-- Settles O52: under the latch the first fetch leaves PC where it is, so the bytes from PC on follow it
(`step_execute_internal` with `p` the opcode's own address). -/
theorem haltBugStep : Obligations.HaltBugStep := by
  intro s i rest hp ha ho hl hime hh hdec h0 h1
  have hlen : (encode i).length ≤ 3 := (decode_length hdec).symm ▸ (instrLength_range _).2
  have hrest : ∀ k < (encode i).length - 1, isExternal (s.cpu.pc + BitVec.ofNat 16 k) = false := by
    intro k hk
    obtain rfl | rfl : k = 0 ∨ k = 1 := by omega
    · simpa using h0
    · exact h1
  have hpc : s.cpu.pc = if s.cpu.haltbugLatch then s.cpu.pc else s.cpu.pc + 1 := by simp [hl]
  rw [step_execute_internal hp ha ho (by simp [hime]) (by simp [hh]) hpc hdec h0 hrest]
  simp [State.fetched, State.awakened, hime, hh]

end Sys2Proof.Machine
end

/-! ## The region map, row by row (20_memory.md R64, R69 to R74) -/

section
namespace Sys2Proof.Machine

variable {a : Word} {k : Nat}

theorem regionOf_cartRom (h : a.toNat < 0x8000) : regionOf a = .cartRom a.toNat := if_pos h

theorem regionOf_vram (h : 0x8000 ≤ a.toNat ∧ a.toNat < 0xA000) : regionOf a = .vram (a.toNat - 0x8000) := by
  simp (disch := omega) only [regionOf, if_pos, if_neg]

theorem regionOf_cartRam (h : 0xA000 ≤ a.toNat ∧ a.toNat < 0xC000) :
    regionOf a = .cartRam (a.toNat - 0xA000) := by
  simp (disch := omega) only [regionOf, if_pos, if_neg]

theorem regionOf_wram (h : 0xC000 ≤ a.toNat ∧ a.toNat < 0xE000) : regionOf a = .wram (a.toNat - 0xC000) := by
  simp (disch := omega) only [regionOf, if_pos, if_neg]

/-- The mirror of working RAM (R69). -/
theorem regionOf_mirror (h : 0xE000 ≤ a.toNat ∧ a.toNat < 0xFE00) : regionOf a = .wram (a.toNat - 0xE000) := by
  simp (disch := omega) only [regionOf, if_pos, if_neg]

theorem regionOf_oam (h : 0xFE00 ≤ a.toNat ∧ a.toNat < 0xFEA0) : regionOf a = .oam (a.toNat - 0xFE00) := by
  simp (disch := omega) only [regionOf, if_pos, if_neg]

theorem regionOf_hole (h : 0xFEA0 ≤ a.toNat ∧ a.toNat < 0xFF00) : regionOf a = .unmapped := by
  simp (disch := omega) only [regionOf, if_pos, if_neg]

theorem regionOf_portPage (h : 0xFF00 ≤ a.toNat ∧ a.toNat < 0xFF80) :
    regionOf a = portRegion (a.toNat - 0xFF00) := by
  simp (disch := omega) only [regionOf, if_pos, if_neg]

theorem regionOf_hram (h : 0xFF80 ≤ a.toNat ∧ a.toNat < 0xFFFF) : regionOf a = .hram (a.toNat - 0xFF80) := by
  simp (disch := omega) only [regionOf, if_pos, if_neg]

theorem regionOf_enable (h : a.toNat = 0xFFFF) : regionOf a = .enable := by
  simp (disch := omega) only [regionOf, if_neg]

theorem toNat_sub_mirror (h : 0xE000 ≤ a.toNat) : (a - 0x2000).toNat = a.toNat - 0x2000 :=
  BitVec.toNat_sub_of_le (BitVec.le_def.mpr (Nat.le_trans (by decide) h))

/-- An address of the mirror shares its byte with the one 0x2000 lower (R69). -/
theorem regionOf_mirror_sub (h : 0xE000 ≤ a.toNat ∧ a.toNat < 0xFE00) :
    regionOf (a - 0x2000) = .wram (a.toNat - 0xE000) := by
  have hsub := toNat_sub_mirror h.1
  rw [regionOf_wram (by omega), hsub, Nat.sub_sub]

/-! ### The page of the ports (R72 to R74) -/

theorem portRegion_external {n : Nat} (h : n ≤ 0x02 ∨ (0x10 ≤ n ∧ n ≤ 0x3F)) : portRegion n = .external := by
  unfold portRegion
  split
  · rfl
  · exact if_pos (by omega)

theorem portRegion_unmapped : ∀ n < 0x80, n = 0x03 ∨ (0x08 ≤ n ∧ n ≤ 0x0E) ∨ 0x4C ≤ n →
    portRegion n = .unmapped := by
  decide

/-- The address of each in-scope port (R72). -/
def Port.address : Port → Word
  | .div => 0xFF04
  | .tima => 0xFF05
  | .tma => 0xFF06
  | .tac => 0xFF07
  | .ifl => 0xFF0F
  | .lcdc => 0xFF40
  | .stat => 0xFF41
  | .scy => 0xFF42
  | .scx => 0xFF43
  | .ly => 0xFF44
  | .lyc => 0xFF45
  | .dma => 0xFF46
  | .bgp => 0xFF47
  | .obp0 => 0xFF48
  | .obp1 => 0xFF49
  | .wy => 0xFF4A
  | .wx => 0xFF4B

@[simp] theorem regionOf_portAddress (p : Port) : regionOf p.address = .port p := by
  have hpage : 0xFF00 ≤ p.address.toNat ∧ p.address.toNat < 0xFF80 := by cases p <;> decide
  rw [regionOf_portPage hpage]
  cases p <;> simp [Port.address, portRegion]

theorem portRegion_port {n : Nat} (h : (0x04 ≤ n ∧ n ≤ 0x07) ∨ n = 0x0F ∨ (0x40 ≤ n ∧ n ≤ 0x4B)) :
    ∃ p, portRegion n = .port p := by
  obtain ⟨hlo, hhi⟩ | rfl | ⟨hlo, hhi⟩ := h
  · interval_cases n <;> exact ⟨_, rfl⟩
  · exact ⟨_, rfl⟩
  · interval_cases n <;> exact ⟨_, rfl⟩

/-- The unmapped addresses of the block (R71, R73). -/
theorem regionOf_unmapped (h : (0xFEA0 ≤ a.toNat ∧ a.toNat < 0xFF00) ∨ a.toNat = 0xFF03 ∨
    (0xFF08 ≤ a.toNat ∧ a.toNat ≤ 0xFF0E) ∨ (0xFF4C ≤ a.toNat ∧ a.toNat ≤ 0xFF7F)) :
    regionOf a = .unmapped := by
  obtain hhole | hport := h
  · exact regionOf_hole hhole
  · rw [regionOf_portPage (by omega), portRegion_unmapped _ (by omega) (by omega)]

/-- What the page of the ports holds: no memory. -/
theorem portRegion_cases (n : Nat) :
    portRegion n = .external ∨ portRegion n = .unmapped ∨ ∃ p, portRegion n = .port p := by
  unfold portRegion
  repeat' split
  all_goals simp

/-- Only the page of the ports belongs to outside devices. -/
theorem le_toNat_of_external (h : regionOf a = .external) : 0xFF00 ≤ a.toNat := by
  unfold regionOf at h
  grind

/-- The offset of an OAM address is its distance from 0xFE00. -/
theorem toNat_of_regionOf_oam (h : regionOf a = .oam k) : a.toNat = 0xFE00 + k := by
  have hp := portRegion_cases (a.toNat - 0xFF00)
  unfold regionOf at h
  grind

/-- Settles O33: each row of the map by its own lemma, the mirror by the two that give it the same byte. -/
theorem regionMap : Obligations.RegionMap := by
  intro a n
  refine ⟨regionOf_cartRom, regionOf_vram, regionOf_cartRam, regionOf_wram, fun h => ?_, regionOf_oam,
    regionOf_hole, fun h => ?_, fun h => regionOf_unmapped (.inr h), fun h => ?_, regionOf_hram, regionOf_enable⟩
  · rw [regionOf_mirror h, regionOf_mirror_sub h]
  · rw [regionOf_portPage (by omega), portRegion_external (by omega)]
  · rw [regionOf_portPage (by omega)]
    exact portRegion_port (by omega)

end Sys2Proof.Machine
end

/-! ## What a read and a write of one address are, by its region (20_memory.md R61 to R63, R72 to R78) -/

section
namespace Sys2Proof.Machine

open Forms

variable (s : State) {a : Word} {k : Nat}

theorem State.busRead_wram (h : regionOf a = .wram k) : s.busRead a = s.wram.read k := by
  rw [State.busRead, h]

theorem State.busWrite_wram (h : regionOf a = .wram k) (v : Byte) :
    s.busWrite a v = { s with wram := s.wram.write k v } := by
  rw [State.busWrite, h]

theorem State.busRead_unmapped (h : regionOf a = .unmapped) : s.busRead a = 0xFF := by
  rw [State.busRead, h]
  rfl

theorem State.busWrite_unmapped (h : regionOf a = .unmapped) (v : Byte) : s.busWrite a v = s := by
  rw [State.busWrite, h]

theorem State.busRead_port (p : Port) : s.busRead p.address = s.readPort p := by
  rw [State.busRead, regionOf_portAddress]

theorem State.busWrite_port (p : Port) (v : Byte) : s.busWrite p.address v = s.writePort p v := by
  rw [State.busWrite, regionOf_portAddress]

theorem State.busRead_external (h : regionOf a = .external) : s.busRead a = s.env.ioAnswer a := by
  rw [State.busRead, h]

theorem State.busWrite_external (h : regionOf a = .external) (v : Byte) :
    s.busWrite a v = { s with env := { s.env with ioOut := (a, v) :: s.env.ioOut } } := by
  rw [State.busWrite, h]

theorem State.afterRead_external (h : regionOf a = .external) : s.afterRead a = { s with env := s.env.tookIo } := by
  rw [State.afterRead, h]

theorem isExternal_eq_true : isExternal a = true ↔ regionOf a = .external := by
  rw [← not_iff_not, Bool.not_eq_true, isExternal_eq_false]

/-- Settles O34: both addresses of a mirrored byte have one region, and an unmapped region neither answers nor
stores. -/
theorem mirrorAndUnmapped : Obligations.MirrorAndUnmapped := by
  refine ⟨fun s a v hlo hhi => ?_, fun s a v h => ?_⟩
  · have hm : regionOf a = .wram (a.toNat - 0xE000) := regionOf_mirror (by omega)
    have hsub : regionOf (a - 0x2000) = .wram (a.toNat - 0xE000) := regionOf_mirror_sub (by omega)
    rw [s.busRead_wram hm, s.busRead_wram hsub, s.busWrite_wram hm, s.busWrite_wram hsub]
    exact ⟨rfl, rfl⟩
  · have hr : regionOf a = .unmapped :=
      regionOf_unmapped (h.imp_right (.imp_left fun h3 => congrArg BitVec.toNat h3))
    exact ⟨s.busRead_unmapped hr, s.busWrite_unmapped hr v, s.afterRead_of_ne (by simp [hr])⟩

/-- Settles O35: in each of the five plain regions a read after a write is a read after a write of its array
(`Memory.read_write_same`), or IE itself. -/
theorem plainStorage : Obligations.PlainStorage := by
  intro s a v h
  refine ⟨?_, s.busWrite_cpu a v, ?_⟩
  · unfold State.busRead State.busWrite
    unfold isPlain at h
    cases hr : regionOf a with
    | vram k | wram k | oam k | hram k => exact Memory.read_write_same _ _ _
    | enable => rfl
    | _ => simp [hr] at h
  · refine s.afterRead_of_ne fun hr => ?_
    simp [isPlain, hr] at h

/-- Settles O37: inside the block a read changes nothing; outside it takes the environment's next answer. -/
theorem readsKeepState : Obligations.ReadsKeepState := by
  intro s a
  refine ⟨s.afterRead_of_internal, fun h => ?_⟩
  have hr := isExternal_eq_true.mp h
  refine ⟨s.busRead_external hr, s.afterRead_external hr, fun v rest hlist => ?_, fun hlist => ?_,
    s.busWrite_external hr⟩
  · simp [Env.ioAnswer, Env.tookIo, hlist]
  · simp [Env.tookIo, hlist]

/-! ### Reads of ports -/

theorem upperThreeOnes_append : ∀ f : BitVec 5, 0b111#3 ++ f = 0xE0 ||| f.setWidth 8 := by decide

/-- STAT's fields as the bits of one byte (62_display_timing.md R396). -/
theorem statFields_append : ∀ (en : BitVec 4) (b : Bool) (m : BitVec 2),
    1#1 ++ en ++ BitVec.ofBool b ++ m =
      (0x80 ||| en.setWidth 8 <<< 3 ||| (if b then 4 else 0) ||| m.setWidth 8 : Byte) := by decide

theorem Lcd.readStat_eq (d : Lcd) :
    d.readStat = 0x80 ||| d.statEn.setWidth 8 <<< 3 ||| (if d.ly = d.lyc then 4 else 0) |||
      d.mode.number.setWidth 8 := by
  simp only [Lcd.readStat, statFields_append, beq_iff_eq]

/-- Settles O38: each port by `State.busRead_port`; IF and STAT as bytes of their fields. -/
theorem portReads : Obligations.PortReads := by
  intro s
  have hstat := (s.busRead_port .stat).trans s.lcd.readStat_eq
  have hif := (s.busRead_port .ifl).trans (upperThreeOnes_append _)
  exact ⟨s.busRead_port .div, s.busRead_port .tima, s.busRead_port .tma, s.busRead_port .tac, hif,
    s.busRead_port .lcdc, hstat, s.busRead_port .scy, s.busRead_port .scx, s.busRead_port .ly,
    s.busRead_port .lyc, s.busRead_port .dma, s.busRead_port .bgp, s.busRead_port .obp0, s.busRead_port .obp1,
    s.busRead_port .wy, s.busRead_port .wx, rfl⟩

/-! ### Writes of ports -/

theorem Lcd.writeLcdc_off {d : Lcd} {v : Byte} (hon : d.lcdc.getLsbD 7 = true) (hv : v.getLsbD 7 = false) :
    d.writeLcdc v = { d with lcdc := v, ly := 0, dot := 0, mode := .hblank } := by
  simp only [Lcd.writeLcdc, Lcd.enabled, hon, hv]

theorem Lcd.writeLcdc_on {d : Lcd} {v : Byte} (hoff : d.lcdc.getLsbD 7 = false) (hv : v.getLsbD 7 = true) :
    d.writeLcdc v = { d with lcdc := v, ly := 0, dot := 0, mode := .searchOam } := by
  simp only [Lcd.writeLcdc, Lcd.enabled, hoff, hv]

theorem Lcd.writeLcdc_same {d : Lcd} {v : Byte} (h : d.lcdc.getLsbD 7 = v.getLsbD 7) :
    d.writeLcdc v = { d with lcdc := v } := by
  rw [Lcd.writeLcdc, Lcd.enabled, h]
  cases v.getLsbD 7 <;> rfl

/-- Settles O39: each port by `State.busWrite_port`; LCDC by the three cases of its bit 7. -/
theorem portWrites : Obligations.PortWrites := by
  refine ⟨fun s v => ?_, fun s v => ⟨fun hon hv => ?_, fun hoff hv => ?_, fun h => ?_⟩⟩
  · exact ⟨s.busWrite_port .div v, s.busWrite_port .tima v, s.busWrite_port .tma v, s.busWrite_port .tac v,
      s.busWrite_port .ifl v, s.busWrite_port .stat v, s.busWrite_port .scy v, s.busWrite_port .scx v,
      s.busWrite_port .ly v, s.busWrite_port .lyc v, s.busWrite_port .bgp v, s.busWrite_port .obp0 v,
      s.busWrite_port .obp1 v, s.busWrite_port .wy v, s.busWrite_port .wx v, rfl⟩
  all_goals refine (s.busWrite_port .lcdc v).trans (congrArg (fun d => { s with lcd := d }) ?_)
  · exact Lcd.writeLcdc_off hon hv
  · exact Lcd.writeLcdc_on hoff hv
  · exact Lcd.writeLcdc_same h

end Sys2Proof.Machine
end

/-! ## What a store changes of later reads (20_memory.md R62, R72, R77; 63_cartridge.md R424) -/

section
namespace Sys2Proof.Machine

open Forms

variable (s : State) {a x : Word}

/-! ### The cartridge -/

theorem Env.tookRtc_eq (e : Env) :
    e.tookRtc = { e with rtcIn := e.tookRtc.rtcIn, rtcCount := e.tookRtc.rtcCount } := by
  unfold Env.tookRtc
  split <;> rfl

/-- A control write changes the bank registers and the clock's answers, nothing else. -/
theorem State.controlWrite_eq (n : Nat) (v : Byte) : ∃ (cart : Cart) (rtcIn : List RtcRegs) (rtcCount : Nat),
    s.controlWrite n v =
      { s with cart := cart, env := { s.env with rtcIn := rtcIn, rtcCount := rtcCount } } := by
  have hlatch : ∃ (cart : Cart) (rtcIn : List RtcRegs) (rtcCount : Nat), s.latchClock v =
      { s with cart := cart, env := { s.env with rtcIn := rtcIn, rtcCount := rtcCount } } := by
    unfold State.latchClock
    split
    · exact ⟨_, s.env.tookRtc.rtcIn, s.env.tookRtc.rtcCount, by rw [← Env.tookRtc_eq]⟩
    · exact ⟨_, _, _, rfl⟩
  unfold State.controlWrite
  cases s.cfg.kind with
  | mbc3 =>
    simp only
    split
    · exact ⟨_, _, _, rfl⟩
    · exact hlatch
  | _ => exact ⟨_, _, _, rfl⟩

/-- A control write can be seen through the cartridge's two banked windows alone. -/
theorem State.busRead_controlWrite (n : Nat) (v : Byte) (hrom : ∀ k, regionOf a = .cartRom k → k < 0x4000)
    (hram : ∀ k, regionOf a ≠ .cartRam k) : (s.controlWrite n v).busRead a = s.busRead a := by
  obtain ⟨cart, rtcIn, rtcCount, he⟩ := s.controlWrite_eq n v
  rw [he]
  unfold State.busRead
  cases hr : regionOf a with
  | cartRom k => simp only [romOffset, if_pos (hrom k hr)]
  | cartRam k => exact absurd hr (hram k)
  | _ => rfl

theorem cramTarget_ne_clock (cfg : Config) (b off i : Nat) : cramTarget cfg b off ≠ .clock i := by
  unfold cramTarget
  split <;> nofun

/-- While the window shows a clock register, every address of it shows that one. -/
theorem extTarget_clock {cfg : Config} {c : Cart} {j k i : Nat} (h : extTarget cfg c k = .clock i) :
    extTarget cfg c j = .clock i := by
  unfold extTarget at h ⊢
  cases hk : cfg.kind with
  | mbc3 =>
    simp only [hk] at h ⊢
    repeat' split at h
    case isTrue.isTrue => exact absurd h (cramTarget_ne_clock _ _ _ _)
    case isTrue.isFalse.isTrue hen hram hclock =>
      rw [if_pos hen, if_neg hram, if_pos hclock]
      exact h
    all_goals cases h
  | direct =>
    simp only [hk] at h
    exact absurd h (cramTarget_ne_clock _ _ _ _)
  | mbc1 | mbc5 =>
    simp only [hk] at h
    split at h
    · exact absurd h (cramTarget_ne_clock _ _ _ _)
    · cases h

/-- A write of the window changes cartridge RAM and the clock registers, nothing else. -/
theorem State.writeExt_eq (k : Nat) (v : Byte) : ∃ (cram : Memory) (rtc : RtcRegs),
    s.writeExt k v = { s with cram := cram, cart := { s.cart with rtc := rtc } } := by
  unfold State.writeExt
  split <;> exact ⟨_, _, rfl⟩

theorem State.readExt_writeExt {j k : Nat} (v : Byte)
    (h : extTarget s.cfg s.cart k ≠ extTarget s.cfg s.cart j) : (s.writeExt k v).readExt j = s.readExt j := by
  unfold State.writeExt
  cases hk : extTarget s.cfg s.cart k with
  | cram m =>
    unfold State.readExt
    cases hj : extTarget s.cfg s.cart j with
    | cram m' =>
      have hne : m' ≠ m := fun e => h (by rw [hk, hj, e])
      exact Memory.read_write_ne _ v hne
    | _ => rfl
  | clock i => exact absurd (hk.trans (extTarget_clock hk).symm) h
  | nothing => rfl

/-- A write of the window can be seen through the window alone, at the addresses that share its byte. -/
theorem State.busRead_writeExt {k : Nat} (v : Byte)
    (h : ∀ j, regionOf a = .cartRam j → extTarget s.cfg s.cart k ≠ extTarget s.cfg s.cart j) :
    (s.writeExt k v).busRead a = s.busRead a := by
  obtain ⟨cram, rtc, he⟩ := s.writeExt_eq k v
  unfold State.busRead
  cases hr : regionOf a with
  | cartRam j => exact s.readExt_writeExt v (h j hr)
  | cartRom _ | port _ =>
    rw [he]
    rfl
  | _ => rw [he]

/-! ### The ports -/

/-- An LCDC write changes LCDC, LY, the dot and the mode, nothing else (62_display_timing.md R383). -/
theorem Lcd.writeLcdc_eq (d : Lcd) (v : Byte) : ∃ (ly : Byte) (dot : Nat) (mode : Mode),
    d.writeLcdc v = { d with lcdc := v, ly := ly, dot := dot, mode := mode } := by
  unfold Lcd.writeLcdc
  split <;> exact ⟨_, _, _, rfl⟩

/-- A port write changes the timer, IF, the display's registers and, by the OAM copy, OAM and the environment. -/
theorem State.writePort_eq (p : Port) (v : Byte) :
    s.writePort p v = { s with
      timer := (s.writePort p v).timer, irq := { s.irq with flags := (s.writePort p v).irq.flags },
      lcd := (s.writePort p v).lcd, oam := (s.writePort p v).oam, env := (s.writePort p v).env } := by
  cases p with
  | dma =>
    simp only [State.writePort, State.writeDma]
    rw [State.copyToOam_eq]
  | _ => rfl

/-- No port but DMA reaches a memory or the environment. -/
theorem State.writePort_keeps {p : Port} (hp : p ≠ .dma) (v : Byte) :
    (s.writePort p v).oam = s.oam ∧ (s.writePort p v).env = s.env := by
  cases p with
  | dma => exact absurd rfl hp
  | _ => exact ⟨rfl, rfl⟩

/-- A port write changes what its own port reads as, and for LCDC and LYC what is computed from them. -/
theorem State.readPort_writePort {p q : Port} (v : Byte) (hx : regionOf x = .port p) (ha : regionOf a = .port q)
    (h : mayChange s x a = false) : (s.writePort p v).readPort q = s.readPort q := by
  simp only [mayChange, hx, ha] at h
  cases p with
  | ly => rfl
  | lcdc =>
    obtain ⟨ly, dot, mode, he⟩ := s.lcd.writeLcdc_eq v
    rw [State.writePort, he]
    cases q <;> simp at h <;> rfl
  | dma =>
    rw [State.writePort, State.writeDma, State.copyToOam_eq]
    cases q <;> simp at h <;> rfl
  | _ => cases q <;> simp at h <;> rfl

theorem State.busRead_writePort {p : Port} (v : Byte) (hx : regionOf x = .port p) (h : mayChange s x a = false) :
    (s.writePort p v).busRead a = s.busRead a := by
  unfold State.busRead
  cases ha : regionOf a with
  | port q => exact s.readPort_writePort v hx ha h
  | oam k =>
    have hp : p ≠ .dma := by
      rintro rfl
      simp [mayChange, hx, ha] at h
    exact congrArg (Memory.read · k) (s.writePort_keeps hp v).1
  | external =>
    have hp : p ≠ .dma := by
      rintro rfl
      simp [mayChange, hx, ha] at h
    exact congrArg (Env.ioAnswer · a) (s.writePort_keeps hp v).2
  | cartRam k =>
    rw [State.writePort_eq]
    rfl
  | _ => rw [State.writePort_eq]

/-! ### The plain memories, and every store -/

/-- A read sees the plain memories only through the byte of its own address. -/
theorem State.busRead_setMemories {vram wram oam hram : Memory}
    (hv : ∀ k, regionOf a = .vram k → vram.read k = s.vram.read k := by intros; rfl)
    (hw : ∀ k, regionOf a = .wram k → wram.read k = s.wram.read k := by intros; rfl)
    (ho : ∀ k, regionOf a = .oam k → oam.read k = s.oam.read k := by intros; rfl)
    (hh : ∀ k, regionOf a = .hram k → hram.read k = s.hram.read k := by intros; rfl) :
    ({ s with vram := vram, wram := wram, oam := oam, hram := hram } : State).busRead a = s.busRead a := by
  unfold State.busRead
  cases hr : regionOf a with
  | vram k => exact hv k hr
  | wram k => exact hw k hr
  | oam k => exact ho k hr
  | hram k => exact hh k hr
  | _ => rfl

/-- A store to plain storage may change the addresses that share its byte. -/
theorem mayChange_of_isPlain (hx : isPlain x = true) (h : regionOf x = regionOf a) : mayChange s x a = true := by
  unfold isPlain at hx
  rw [h] at hx
  rw [mayChange, h]
  cases ha : regionOf a <;> simp [ha] at hx ⊢

/-- A store to plain storage changes no address of another byte. -/
theorem State.busRead_busWrite_of_isPlain (v : Byte) (hx : isPlain x = true) (h : regionOf x ≠ regionOf a) :
    (s.busWrite x v).busRead a = s.busRead a := by
  unfold State.busWrite
  unfold isPlain at hx
  cases hr : regionOf x with
  | vram k =>
    exact s.busRead_setMemories (hv := fun j ha => Memory.read_write_ne _ v fun e => h (by rw [hr, ha, e]))
  | wram k =>
    exact s.busRead_setMemories (hw := fun j ha => Memory.read_write_ne _ v fun e => h (by rw [hr, ha, e]))
  | oam k =>
    exact s.busRead_setMemories (ho := fun j ha => Memory.read_write_ne _ v fun e => h (by rw [hr, ha, e]))
  | hram k =>
    exact s.busRead_setMemories (hh := fun j ha => Memory.read_write_ne _ v fun e => h (by rw [hr, ha, e]))
  | enable =>
    unfold State.busRead
    cases ha : regionOf a with
    | enable => exact absurd (hr.trans ha.symm) h
    | _ => rfl
  | _ => simp [hr] at hx

/-- A store changes no read but those its region's write column names. -/
theorem State.busRead_busWrite_of_mayChange (v : Byte) (h : mayChange s x a = false) :
    (s.busWrite x v).busRead a = s.busRead a := by
  by_cases hp : isPlain x = true
  · refine s.busRead_busWrite_of_isPlain v hp fun hxa => ?_
    rw [mayChange_of_isPlain s hp hxa] at h
    cases h
  unfold isPlain at hp
  unfold State.busWrite
  cases hx : regionOf x with
  | cartRom n =>
    refine s.busRead_controlWrite n v (fun k ha => ?_) (fun k ha => ?_)
    · simpa [mayChange, hx, ha] using h
    · simp [mayChange, hx, ha] at h
  | cartRam k =>
    refine s.busRead_writeExt v fun j ha => ?_
    simpa [mayChange, hx, ha] using h
  | port p => exact s.busRead_writePort v hx h
  | unmapped => rfl
  | external =>
    unfold State.busRead
    cases regionOf a <;> rfl
  | _ => simp [hx] at hp

/-- Settles O36, region by region of the written address. -/
theorem storeChangesOnly : Obligations.StoreChangesOnly :=
  fun s _ _ v h => s.busRead_busWrite_of_mayChange v h

end Sys2Proof.Machine
end

/-! ## The frame of every instruction's stores (20_memory.md R62, R83) -/

section
namespace Sys2Proof.Machine

open Forms

variable {s t : State} {a x : Word} {i : Instr}

/-- Only a control write moves the window. -/
theorem State.busWrite_extTarget (hx : ∀ n, regionOf x ≠ .cartRom n) (v : Byte) (k : Nat) :
    extTarget (s.busWrite x v).cfg (s.busWrite x v).cart k = extTarget s.cfg s.cart k := by
  unfold State.busWrite
  cases hr : regionOf x with
  | cartRom n => exact absurd hr (hx n)
  | cartRam j =>
    obtain ⟨cram, rtc, he⟩ := s.writeExt_eq j v
    simp only [he]
    rfl
  | port p =>
    simp only
    rw [State.writePort_eq]
  | _ => rfl

/-- What a store may change depends on the state only where the window moves. -/
theorem mayChange_congr (y : Word)
    (h : ∀ j, regionOf a = .cartRam j → ∀ k, extTarget t.cfg t.cart k = extTarget s.cfg s.cart k) :
    mayChange t y a = mayChange s y a := by
  unfold mayChange
  cases regionOf y with
  | cartRam k =>
    cases ha : regionOf a with
    | cartRam j => simp only [h j ha]
    | _ => rfl
  | port p => cases p <;> cases regionOf a <;> rfl
  | _ => cases regionOf a <;> rfl

/-- A store that may not change `a` leaves open which other stores may. -/
theorem mayChange_busWrite (v : Byte) (h : mayChange s x a = false) (y : Word) :
    mayChange (s.busWrite x v) y a = mayChange s y a := by
  refine mayChange_congr y fun j ha => State.busWrite_extTarget (fun n hx => ?_) v
  simp [mayChange, hx, ha] at h

/-- On the way of an instruction `a` reads as at its start, and no store to come may change it. -/
theorem Reaches.busRead_eq (hreach : Reaches i s t) (hs : ∀ x ∈ storesTo s i, mayChange s x a = false)
    (hr : isExternal a = true → ∀ x ∈ readsFrom s i, isExternal x = false) :
    t.busRead a = s.busRead a ∧ ∀ x ∈ storesTo s i, mayChange t x a = false := by
  induction hreach with
  | start => exact ⟨rfl, hs⟩
  | cpu _ _ _ _ ih => exact ih
  | @read t x hx _ ih =>
    obtain ⟨hread, hstores⟩ := ih
    have hinside : regionOf x ≠ .external ∨ regionOf a ≠ .external := by
      by_cases ha : isExternal a = true
      · exact .inl (isExternal_eq_false.mp (hr ha x hx))
      · exact .inr (isExternal_eq_false.mp (Bool.not_eq_true _ ▸ ha))
    refine ⟨(t.busRead_afterRead hinside).trans hread, ?_⟩
    rw [State.afterRead_eq]
    exact hstores
  | @write t x v hx _ ih =>
    obtain ⟨hread, hstores⟩ := ih
    refine ⟨(t.busRead_busWrite_of_mayChange v (hstores x hx)).trans hread, fun y hy => ?_⟩
    rw [mayChange_busWrite v (hstores x hx)]
    exact hstores y hy

/-- Settles O31: the frame of `exec` (`exec_answers`), each read and store of it by `Reaches.busRead_eq`. -/
theorem memoryFrame : Obligations.MemoryFrame := by
  intro i s t a h hs hr
  obtain ⟨hsame, _⟩ := (exec_answers h).reaches.busRead_eq hs hr
  exact hsame

end Sys2Proof.Machine
end

/-! ## The OAM copy (20_memory.md R77) -/

section
namespace Sys2Proof.Machine

open Forms

variable {s : State} {page : Byte} {n i k : Nat}

/-- The address the copy reads byte `i` from. -/
def dmaSource (page : Byte) (i : Nat) : Word := join page 0 + BitVec.ofNat 16 i

theorem dmaSource_toNat (hi : i < 0x100) : (dmaSource page i).toNat = page.toNat * 256 + i := by
  have hpage := page.isLt
  have hlow : (0 : Byte).toNat = 0 := rfl
  simp only [dmaSource, BitVec.toNat_add, join_toNat, BitVec.toNat_ofNat, hlow]
  omega

/-- A source in OAM itself is the byte's own place. -/
theorem dmaSource_oam (hi : i < 0x100) (h : regionOf (dmaSource page i) = .oam k) : k = i := by
  have hk : k < 0xA0 := (regionOf_lt _).2.2.1 k h
  have hoff := toNat_of_regionOf_oam h
  rw [dmaSource_toNat hi] at hoff
  omega

/-- Only the last page reaches outside devices. -/
theorem dmaSource_internal (hi : i < 0x100) (hpage : page ≠ 0xFF) : regionOf (dmaSource page i) ≠ .external := by
  intro h
  have hle := le_toNat_of_external h
  rw [dmaSource_toNat hi] at hle
  have hlast : page.toNat = 0xFF := by omega
  exact hpage (BitVec.eq_of_toNat_eq hlast)

/-- One byte copied. -/
def State.copyByte (s : State) (page : Byte) (i : Nat) : State :=
  { s.afterRead (dmaSource page i) with oam := s.oam.write i (s.busRead (dmaSource page i)) }

theorem State.copyToOam_succ : State.copyToOam page (n + 1) i s =
    State.copyToOam page n (i + 1) (s.copyByte page i) := by
  rw [State.copyToOam, State.copyByte, ← State.afterRead_oam s (dmaSource page i)]
  rfl

/-- Copying one byte leaves the sources of the others as they are. -/
theorem State.busRead_copyByte (hk : k < 0x100) (hne : k ≠ i)
    (hin : regionOf (dmaSource page k) ≠ .external) :
    (s.copyByte page i).busRead (dmaSource page k) = s.busRead (dmaSource page k) := by
  calc (s.copyByte page i).busRead (dmaSource page k)
    _ = (s.afterRead (dmaSource page i)).busRead (dmaSource page k) := by
      refine State.busRead_setMemories _ (ho := fun j hj => ?_)
      rw [State.afterRead_oam, dmaSource_oam hk hj]
      exact Memory.read_write_ne _ _ hne
    _ = s.busRead (dmaSource page k) := s.busRead_afterRead (.inr hin)

theorem State.copyToOam_read_of_lt (hk : k < i) : (State.copyToOam page n i s).oam.read k = s.oam.read k := by
  induction n generalizing i s with
  | zero => rfl
  | succ n ih =>
    rw [State.copyToOam_succ, ih (by omega)]
    exact Memory.read_write_ne _ _ (by omega)

/-- Each byte copied is what its source read as before the copy. -/
theorem State.copyToOam_read (hik : i ≤ k) (hkn : k < i + n) (hend : i + n ≤ 0x100)
    (hin : regionOf (dmaSource page k) ≠ .external) :
    (State.copyToOam page n i s).oam.read k = s.busRead (dmaSource page k) := by
  induction n generalizing i s with
  | zero => omega
  | succ n ih =>
    rw [State.copyToOam_succ]
    obtain rfl | hlt := Nat.eq_or_lt_of_le hik
    · rw [State.copyToOam_read_of_lt (Nat.lt_succ_self i)]
      exact Memory.read_write_same _ _ _
    · rw [ih (by omega) (by omega) (by omega)]
      exact State.busRead_copyByte (by omega) (by omega) hin

theorem State.copyToOam_env (hpage : page ≠ 0xFF) (hend : i + n ≤ 0x100) :
    (State.copyToOam page n i s).env = s.env := by
  induction n generalizing i s with
  | zero => rfl
  | succ n ih =>
    rw [State.copyToOam_succ, ih (by omega), State.copyByte,
      s.afterRead_of_ne (dmaSource_internal (by omega) hpage)]

/-- Settles O40: the copy changes OAM and the environment alone (`State.copyToOam_eq`), each byte of it by
`State.copyToOam_read`. -/
theorem oamCopy : Obligations.OamCopy := by
  intro s v src t u
  have ht : t = State.copyToOam v 0xA0 0 u := s.busWrite_port .dma v
  rw [ht]
  refine ⟨State.copyToOam_eq _ _ _ _, fun i hi hin => ?_, fun hv => ?_⟩
  · exact State.copyToOam_read (Nat.zero_le i) (by omega) (by decide) (isExternal_eq_false.mp hin)
  · exact State.copyToOam_env hv (by decide)

end Sys2Proof.Machine
end

/-! ## The decoder and the encoder are inverse to each other (30_encoding.md R100 to R116) -/

section
namespace Sys2Proof

open Forms

variable {i : Instr} {op : Byte} {ops bytes rest : List Byte}

/-! ### What the decoder answers -/

/-- The decoder reads an opcode byte and as many operand bytes as it asks for, and leaves the others. -/
theorem decode_append (h : ops.length + 1 = instrLength op) (rest : List Byte) :
    decode (op :: (ops ++ rest)) = .ok (decodeBytes op (ops.getD 0 0) (ops.getD 1 0), rest) := by
  unfold decode
  match ops with
  | [] => simp [← h]
  | [_] => simp [← h]
  | [_, _] => simp [← h]
  | _ :: _ :: _ :: _ =>
    have hmax := (instrLength_range op).2
    simp only [List.length_cons] at h
    omega

/-- Bytes that decode are 0xCB alone, or begin with an opcode byte and the operand bytes it asks for. -/
theorem decode_ok_cases (h : decode bytes = .ok (i, rest)) :
    (bytes = [0xCB] ∧ i = .prefixCb ∧ rest = []) ∨
    ∃ op ops, bytes = op :: (ops ++ rest) ∧ ops.length + 1 = instrLength op ∧
      i = decodeBytes op (ops.getD 0 0) (ops.getD 1 0) := by
  unfold decode at h
  split at h
  · cases h
  next op _ =>
    split at h
    next hl =>
      cases h
      exact .inr ⟨op, [], rfl, hl.symm, rfl⟩
    next b1 _ hl =>
      cases h
      exact .inr ⟨op, [b1], rfl, hl.symm, rfl⟩
    next =>
      split at h
      next hcb =>
        cases h
        exact .inl ⟨hcb ▸ rfl, rfl, rfl⟩
      next => cases h
    next b1 b2 _ hl =>
      cases h
      exact .inr ⟨op, [b1, b2], rfl, hl.symm, rfl⟩
    next => cases h

/-! ### Encoding what was decoded -/

theorem Instr.wellFormed_of_illegalByte? (h : ∀ op, i.illegalByte? = some op → op ∈ illegalBytes) :
    i.wellFormed = true := by
  cases i with
  | illegal op => exact List.contains_iff_mem.mpr (h op rfl)
  | _ => rfl

theorem decodeBytes_wellFormed (b0 b1 b2 : Byte) : (decodeBytes b0 b1 b2).wellFormed = true := by
  refine Instr.wellFormed_of_illegalByte? fun op h => ?_
  rw [decodeBytes_illegalByte?] at h
  split at h
  next hmem =>
    cases h
    exact hmem
  next => cases h

/-- The entries of a row encode to their opcode byte and the operand bytes, as many as they have. -/
theorem primaryRow_map_encode (op : Byte) (nn : Word) (row : Nat) :
    (primaryRow op (loByte nn) nn row).map encode =
      (primaryRow op 0 0 row).map fun i => [(encode i).headD 0, loByte nn, hiByte nn].take (encode i).length := by
  unfold primaryRow
  split <;> rfl

theorem decodePrimary_opcode : ∀ op : Byte, (encode (decodePrimary op 0 0)).headD 0 = op := by decide

theorem encode_decodePrimary (hcb : op ≠ 0xCB) (nn : Word) :
    encode (decodePrimary op (loByte nn) nn) = [op, loByte nn, hiByte nn].take (instrLength op) := by
  have hentry : encode (decodePrimary op (loByte nn) nn) =
      [(encode (decodePrimary op 0 0)).headD 0, loByte nn, hiByte nn].take (encode (decodePrimary op 0 0)).length := by
    unfold decodePrimary
    rw [← List.getD_map (f := encode), primaryRow_map_encode,
      ← List.getD_map (f := fun i => [(encode i).headD 0, loByte nn, hiByte nn].take (encode i).length)]
    rfl
  rw [hentry, decodePrimary_opcode, decodePrimary_length_zero op hcb]

theorem encode_decodeCb : ∀ op2 : Byte, encode (decodeCb op2) = [0xCB, op2] := by decide

/-- Of the three bytes an instruction is decoded from, its encoding is those that its length covers. -/
theorem encode_decodeBytes (b0 b1 b2 : Byte) :
    encode (decodeBytes b0 b1 b2) = [b0, b1, b2].take (instrLength b0) := by
  by_cases hcb : b0 = 0xCB
  · subst hcb
    exact encode_decodeCb b1
  · rw [decodeBytes, if_neg hcb]
    simpa using encode_decodePrimary hcb (join b2 b1)

theorem encode_decodeBytes_of_length (h : ops.length + 1 = instrLength op) :
    encode (decodeBytes op (ops.getD 0 0) (ops.getD 1 0)) = op :: ops := by
  rw [encode_decodeBytes, ← h]
  match ops with
  | [] | [_] | [_, _] => rfl
  | _ :: _ :: _ :: _ =>
    have hmax := (instrLength_range op).2
    simp only [List.length_cons] at h
    omega

/-- Settles O3: bytes that decode are split as `decode_ok_cases` says, and `encode_decodeBytes` gives them back. -/
theorem encodeDecodeAgree : Obligations.EncodeDecodeAgree := by
  intro bytes i rest h
  obtain ⟨rfl, rfl, rfl⟩ | ⟨op, ops, rfl, hlen, rfl⟩ := decode_ok_cases h
  · exact ⟨rfl, rfl⟩
  · exact ⟨decodeBytes_wellFormed _ _ _, by rw [encode_decodeBytes_of_length hlen, List.cons_append]⟩

/-! ### Decoding what was encoded -/

theorem decode_withWord (hl : instrLength op = 3) (hcb : op ≠ 0xCB) (nn : Word) (rest : List Byte) :
    decode (withWord op nn ++ rest) = .ok (decodePrimary op (loByte nn) nn, rest) := by
  calc decode (withWord op nn ++ rest)
    _ = .ok (decodeBytes op (loByte nn) (hiByte nn), rest) :=
      decode_append (ops := [loByte nn, hiByte nn]) hl.symm rest
    _ = .ok (decodePrimary op (loByte nn) nn, rest) := by
      rw [decodeBytes, if_neg hcb, join_hiByte_loByte]

theorem decodeCb_bitByte : ∀ (x : BitVec 2) (b : BitIndex) (z : BitVec 3), x ≠ 0 →
    decodeCb (bitByte x b z) = (bitRow x.toNat b).getD z.toNat .nop := by decide

theorem decode_bitByte {x : BitVec 2} (hx : x ≠ 0) (b : BitIndex) (z : BitVec 3) (rest : List Byte) :
    decode ([0xCB, bitByte x b z] ++ rest) = .ok ((bitRow x.toNat b).getD z.toNat .nop, rest) :=
  decodeCb_bitByte x b z hx ▸ decode_append (op := 0xCB) (ops := [bitByte x b z]) rfl rest

theorem decodeBytes_illegal : ∀ op ∈ illegalBytes, decodeBytes op 0 0 = .illegal op := by decide

theorem decode_illegal (h : op ∈ illegalBytes) (rest : List Byte) :
    decode (op :: rest) = .ok (.illegal op, rest) := by
  have hlength : instrLength op = 1 := Laws.length_illegal op (List.contains_iff_mem.mpr h)
  exact decodeBytes_illegal op h ▸ decode_append (ops := []) hlength.symm rest

/-- Every instruction's bytes decode to it: by the form of its operand, the opcode byte fixing the rest. -/
theorem decode_encode (hw : i.wellFormed = true) (hp : i ≠ .prefixCb) (rest : List Byte) :
    decode (encode i ++ rest) = .ok (i, rest) := by
  cases i with
  | prefixCb => exact absurd rfl hp
  | illegal op => exact decode_illegal (List.contains_iff_mem.mp hw) rest
  | ldBcNn nn | ldDeNn nn | ldHlNn nn | ldSpNn nn | ldAtNnSp nn | ldAtNnA nn | ldAAtNn nn
  | jpNn nn | jpNzNn nn | jpZNn nn | jpNcNn nn | jpCNn nn
  | callNn nn | callNzNn nn | callZNn nn | callNcNn nn | callCNn nn =>
    exact decode_withWord rfl (by decide) nn rest
  | bitB b | bitC b | bitD b | bitE b | bitH b | bitL b | bitAtHl b | bitA b
  | resB b | resC b | resD b | resE b | resH b | resL b | resAtHl b | resA b
  | setB b | setC b | setD b | setE b | setH b | setL b | setAtHl b | setA b =>
    exact decode_bitByte (by decide) b _ rest
  | _ => rfl

theorem decodes_of_encode_eq (he : encode i = bytes) (hw : i.wellFormed = true) (hp : i ≠ .prefixCb) :
    Decodes bytes i := by
  have h := decode_encode hw hp []
  rwa [List.append_nil, he] at h

/-- Settles O2, by `decode_encode`; `prefixCb` is evaluated. -/
theorem decodeEncodeAgree : Obligations.DecodeEncodeAgree :=
  ⟨fun _ rest hw hp => decode_encode hw hp rest, rfl⟩

/-! ### Illegal bytes, lengths and samples -/

/-- Settles O4: the illegal byte is the one that was encoded, by the two round trips. -/
theorem Encoding.illegalBytes : Obligations.IllegalBytes := by
  refine ⟨fun op rest i left h => ?_, fun op hop => ⟨decode_illegal hop [], fun s => Machine.exec_illegal s op⟩⟩
  obtain ⟨hw, hbytes⟩ := encodeDecodeAgree _ _ _ h
  have hbyte : ∀ b, i = .illegal b → b = op ∧ left = rest := by
    rintro b rfl
    exact List.cons.inj hbytes
  refine ⟨⟨?_, fun hop => ?_⟩, hbyte⟩
  · rintro ⟨b, rfl⟩
    exact (hbyte b rfl).1 ▸ List.contains_iff_mem.mp hw
  · cases h.symm.trans (decode_illegal hop rest)
    exact ⟨op, rfl⟩

/-- Three bytes hold the opcode byte and all the operand bytes it asks for. -/
theorem exists_operands (b0 b1 b2 : Byte) (rest : List Byte) : ∃ ops, ops.length + 1 = instrLength b0 ∧
    b0 :: b1 :: b2 :: rest = b0 :: (ops ++ (b0 :: b1 :: b2 :: rest).drop (instrLength b0)) := by
  obtain hl | hl | hl := instrLength_cases b0 <;> rw [hl]
  · exact ⟨[], rfl, rfl⟩
  · exact ⟨[b1], rfl, rfl⟩
  · exact ⟨[b1, b2], rfl, rfl⟩

/-- Settles O5: the operand bytes found by `exists_operands` are those the decoder reads (`decode_append`). -/
theorem lengthFromFirstByte : Obligations.LengthFromFirstByte := by
  intro b0 b1 b2 rest
  obtain ⟨ops, hlen, hsplit⟩ := exists_operands b0 b1 b2 rest
  have hprefix : b0 = 0xCB → instrLength b0 = 2 := by
    rintro rfl
    rfl
  exact ⟨_, decodeBytes_wellFormed _ _ _, (congrArg decode hsplit).trans (decode_append hlen _), hprefix,
    decodeBytes_length _ _ _⟩

/-- Settles O1: each word is its instruction's encoding, which decodes to it (`decode_encode`). -/
theorem sampleWordsDecode : Obligations.SampleWordsDecode := by
  unfold Obligations.SampleWordsDecode
  and_intros <;> exact decodes_of_encode_eq rfl rfl nofun

end Sys2Proof
end

/-! ## The registers an instruction does not write (each rule's Operation) -/

section
namespace Sys2Proof.Machine

open Forms

/-- The registers named by a pair operand; SP is none of the eight. -/
def Reg16.registers : Reg16 → List Reg8
  | .bc => [.b, .c]
  | .de => [.d, .e]
  | .hl => [.h, .l]
  | .sp => []

/-- The registers named by a stack operand; F is none of the eight. -/
def StackPair.registers : StackPair → List Reg8
  | .bc => [.b, .c]
  | .de => [.d, .e]
  | .hl => [.h, .l]
  | .af => [.a]

/-- The register named by an 8-bit operand, if it names one. -/
def Operand8.registers : Operand8 → List Reg8
  | .reg r => [r]
  | .atHl => []

/-- Registers are read from the CPU alone. -/
theorem State.reg_congr {t u : State} (h : t.cpu = u.cpu) (r : Reg8) : t.reg r = u.reg r := by
  unfold State.reg
  rw [h]

@[simp] theorem State.afterOperand_cpu (s : State) (o : Operand8) : (s.afterOperand o).cpu = s.cpu := by
  cases o with
  | reg _ => rfl
  | atHl => exact s.afterRead_cpu s.hl

/-- From `s` to `t` only registers that `i` writes have changed: the 8-bit registers, SP and PC. -/
structure KeepsRegisters (i : Instr) (s t : State) : Prop where
  reg : ∀ r, r ∉ writtenRegisters i → t.reg r = s.reg r
  sp : writesSp i = false → t.cpu.sp = s.cpu.sp
  pc : writesPc i = false → t.cpu.pc = s.cpu.pc

namespace KeepsRegisters

variable {i : Instr} {s t u : State} {r q : Reg8} {o : Operand8}

theorem start : KeepsRegisters i s s := ⟨fun _ _ => rfl, fun _ => rfl, fun _ => rfl⟩

/-! ### The rules of the operations on the state -/

theorem of_cpu_eq (h : KeepsRegisters i s t) (hu : u.cpu = t.cpu) : KeepsRegisters i s u where
  reg r hr := (State.reg_congr hu r).trans (h.reg r hr)
  sp hw := (congrArg Cpu.sp hu).trans (h.sp hw)
  pc hw := (congrArg Cpu.pc hu).trans (h.pc hw)

theorem report (h : KeepsRegisters i s t) (n : Nat) : KeepsRegisters i s (t.report n) := h.of_cpu_eq rfl

theorem afterRead (h : KeepsRegisters i s t) (a : Word) : KeepsRegisters i s (t.afterRead a) :=
  h.of_cpu_eq (t.afterRead_cpu a)

theorem busWrite (h : KeepsRegisters i s t) (a : Word) (v : Byte) : KeepsRegisters i s (t.busWrite a v) :=
  h.of_cpu_eq (t.busWrite_cpu a v)

theorem afterOperand (h : KeepsRegisters i s t) (o : Operand8) : KeepsRegisters i s (t.afterOperand o) :=
  h.of_cpu_eq (t.afterOperand_cpu o)

theorem setFlags (h : KeepsRegisters i s t) (f : Flags) : KeepsRegisters i s (t.setFlags f) :=
  ⟨fun r hr => (t.setFlags_reg f r).trans (h.reg r hr), h.sp, h.pc⟩

theorem setIme (h : KeepsRegisters i s t) (ime eiPending : Bool) : KeepsRegisters i s (t.setIme ime eiPending) :=
  ⟨fun r hr => (t.setIme_reg ime eiPending r).trans (h.reg r hr), h.sp, h.pc⟩

theorem setPc (h : KeepsRegisters i s t) (hw : writesPc i = true) (v : Word) : KeepsRegisters i s (t.setPc v) where
  reg r hr := (t.setPc_reg v r).trans (h.reg r hr)
  sp := h.sp
  pc hn := absurd hw (by simp [hn])

theorem setSp (h : KeepsRegisters i s t) (hw : writesSp i = true) (v : Word) : KeepsRegisters i s (t.setSp v) where
  reg r hr := (t.setSp_reg v r).trans (h.reg r hr)
  sp hn := absurd hw (by simp [hn])
  pc := h.pc

theorem setReg (h : KeepsRegisters i s t) (hr : r ∈ writtenRegisters i) (v : Byte) :
    KeepsRegisters i s (t.setReg r v) where
  reg q hq := by
    have hne : q ≠ r := fun e => hq (e ▸ hr)
    rw [State.setReg_reg, if_neg hne, h.reg q hq]
  sp hw := (t.setReg_cpu_sp r v).trans (h.sp hw)
  pc hw := (t.setReg_cpu_pc r v).trans (h.pc hw)

/-- A write of A and F, where A is a register to write or keeps its value. -/
theorem setAF {a : Byte} (h : KeepsRegisters i s t) (ha : .a ∈ writtenRegisters i ∨ a = t.cpu.a) (f : Flags) :
    KeepsRegisters i s (t.setAF a f) := by
  obtain ha | rfl := ha
  · exact (h.setReg ha a).setFlags f
  · exact h.setFlags f

/-- A write of a pair writes its two registers. -/
theorem setPair (h : KeepsRegisters i s t) (hr : [r, q] ⊆ writtenRegisters i) (v : Word) :
    KeepsRegisters i s ((t.setReg r (hiByte v)).setReg q (loByte v)) :=
  (h.setReg (hr (.head _)) _).setReg (hr (.tail _ (.head _))) _

theorem setHl (h : KeepsRegisters i s t) (hr : [.h, .l] ⊆ writtenRegisters i) (v : Word) :
    KeepsRegisters i s (t.setHl v) :=
  h.setPair hr v

theorem setReg16 {p : Reg16} (h : KeepsRegisters i s t) (hr : p.registers ⊆ writtenRegisters i)
    (hsp : p = .sp → writesSp i = true) (v : Word) : KeepsRegisters i s (t.setReg16 p v) := by
  cases p with
  | sp => exact h.setSp (hsp rfl) v
  | bc | de | hl => exact h.setPair hr v

theorem setStackPair {p : StackPair} (h : KeepsRegisters i s t) (hr : p.registers ⊆ writtenRegisters i) (v : Word) :
    KeepsRegisters i s (t.setStackPair p v) := by
  cases p with
  | af => exact h.setAF (.inl (hr (.head _))) _
  | bc | de | hl => exact h.setPair hr v

theorem setOperand (h : KeepsRegisters i s t) (ho : o.registers ⊆ writtenRegisters i) (v : Byte) :
    KeepsRegisters i s (t.setOperand o v) := by
  cases o with
  | reg r => exact h.setReg (ho (.head _)) v
  | atHl => exact h.busWrite _ v

/-! ### The rules of the operations instructions share -/

theorem push16 (h : KeepsRegisters i s t) (hw : writesSp i = true) (v : Word) : KeepsRegisters i s (t.push16 v) :=
  (((h.setSp hw _).busWrite _ _).setSp hw _).busWrite _ _

theorem afterPop16 (h : KeepsRegisters i s t) (hw : writesSp i = true) : KeepsRegisters i s t.afterPop16 :=
  (((h.afterRead _).setSp hw _).afterRead _).setSp hw _

theorem call (hsp : writesSp i = true) (hpc : writesPc i = true) (v : Word) : KeepsRegisters i s (s.call v) :=
  (start.push16 hsp _).setPc hpc v

theorem ret (hsp : writesSp i = true) (hpc : writesPc i = true) : KeepsRegisters i s s.ret :=
  (start.afterPop16 hsp).setPc hpc _

/-- One read of an operand and one write of it. -/
theorem modifyOperand (h : KeepsRegisters i s t) (ho : o.registers ⊆ writtenRegisters i) (v : Byte) :
    KeepsRegisters i s ((t.afterOperand o).setOperand o v) :=
  (h.afterOperand o).setOperand ho v

/-- A conditional transfer answers the taken state or the state it began in (R280). -/
theorem branch {taken : State} {cc : Cond} {costTaken costNot : Nat} (htaken : KeepsRegisters i s taken)
    (h : branch cc taken costTaken costNot s = .next t) : KeepsRegisters i s t := by
  unfold Machine.branch at h
  split at h
  · cases h
    exact htaken.report _
  · cases h
    exact start.report _

/-- The instruction behind 0xCB writes its operand and the flags. -/
theorem cbOperation (h : KeepsRegisters i s t) (hr : ∀ r, r ∈ writtenRegisters i) (op2 : Byte) :
    KeepsRegisters i s (t.cbOperation op2) := by
  unfold State.cbOperation
  split
  · exact ((h.modifyOperand (fun r _ => hr r) _).setFlags _).report _
  · exact ((h.afterOperand _).setFlags _).report _
  · exact (h.modifyOperand (fun r _ => hr r) _).report _
  · exact (h.modifyOperand (fun r _ => hr r) _).report _

/-- 0xCB taken alone moves PC past its second byte (R245). -/
theorem prefixCb (s : State) : KeepsRegisters .prefixCb s (s.afterFetch8.cbOperation (s.busRead s.cpu.pc)) := by
  have hall : ∀ r, r ∈ writtenRegisters .prefixCb := fun r => by cases r <;> decide
  have hfetch : KeepsRegisters .prefixCb s s.afterFetch8 := by
    rw [State.afterFetch8_eq]
    exact ⟨fun r hr => absurd (hall r) hr, fun _ => rfl, nofun⟩
  exact hfetch.cbOperation hall _

end KeepsRegisters

/-- An instruction that answers a next state changes no 8-bit register, SP or PC but those its rule writes. -/
theorem exec_keepsRegisters {i : Instr} {s t : State} (h : exec i s = .next t) : KeepsRegisters i s t := by
  cases i with
  | illegal _ => cases h
  -- 8-bit loads
  | ldBN _ | ldCN _ | ldDN _ | ldEN _ | ldHN _ | ldLN _ | ldAN _ | ldBB | ldBC | ldBD | ldBE | ldBH | ldBL
  | ldBA | ldCB | ldCC | ldCD | ldCE | ldCH | ldCL | ldCA | ldDB | ldDC | ldDD | ldDE | ldDH | ldDL | ldDA
  | ldEB | ldEC | ldED | ldEE | ldEH | ldEL | ldEA | ldHB | ldHC | ldHD | ldHE | ldHH | ldHL | ldHA | ldLB
  | ldLC | ldLD | ldLE | ldLH | ldLL | ldLA | ldAB | ldAC | ldAD | ldAE | ldAH | ldAL | ldAA =>
    cases h
    exact (KeepsRegisters.start.setReg (.head _) _).report _
  | ldAAtBc | ldAAtDe | ldBAtHl | ldCAtHl | ldDAtHl | ldEAtHl | ldHAtHl | ldLAtHl | ldAAtHl | ldhAAtN _
  | ldhAAtC | ldAAtNn _ =>
    cases h
    exact ((KeepsRegisters.start.afterRead _).setReg (.head _) _).report _
  | ldAAtHlInc | ldAAtHlDec =>
    cases h
    exact (((KeepsRegisters.start.afterRead _).setReg (.head _) _).setHl (List.subset_cons_self _ _) _).report _
  | ldAtBcA | ldAtDeA | ldAtHlN _ | ldAtHlB | ldAtHlC | ldAtHlD | ldAtHlE | ldAtHlH | ldAtHlL | ldAtHlA
  | ldhAtNA _ | ldhAtCA | ldAtNnA _ =>
    cases h
    exact (KeepsRegisters.start.busWrite _ _).report _
  | ldAtHlIncA | ldAtHlDecA =>
    cases h
    exact ((KeepsRegisters.start.busWrite _ _).setHl (.refl _) _).report _
  -- pairs and the stack
  | ldBcNn _ | ldDeNn _ | ldHlNn _ | incBc | incDe | incHl | decBc | decDe | decHl =>
    cases h
    exact (KeepsRegisters.start.setReg16 (.refl _) (by nofun) _).report _
  | ldSpNn _ | incSp | decSp | ldSpHl =>
    cases h
    exact (KeepsRegisters.start.setSp rfl _).report _
  | addHlBc | addHlDe | addHlHl | addHlSp | ldHlSpE _ =>
    cases h
    exact ((KeepsRegisters.start.setHl (.refl _) _).setFlags _).report _
  | addSpE _ =>
    cases h
    exact ((KeepsRegisters.start.setSp rfl _).setFlags _).report _
  | ldAtNnSp _ =>
    cases h
    exact ((KeepsRegisters.start.busWrite _ _).busWrite _ _).report _
  | pushBc | pushDe | pushHl | pushAf =>
    cases h
    exact (KeepsRegisters.start.push16 rfl _).report _
  | popBc | popDe | popHl | popAf =>
    cases h
    exact ((KeepsRegisters.start.afterPop16 rfl).setStackPair (.refl _) _).report _
  -- arithmetic, logic and rotates of A
  | addAB | addAC | addAD | addAE | addAH | addAL | addAAtHl | addAA | adcAB | adcAC | adcAD | adcAE | adcAH
  | adcAL | adcAAtHl | adcAA | subB | subC | subD | subE | subH | subL | subAtHl | subA | sbcAB | sbcAC
  | sbcAD | sbcAE | sbcAH | sbcAL | sbcAAtHl | sbcAA | andB | andC | andD | andE | andH | andL | andAtHl
  | andA | xorB | xorC | xorD | xorE | xorH | xorL | xorAtHl | xorA | orB | orC | orD | orE | orH | orL
  | orAtHl | orA =>
    cases h
    exact ((KeepsRegisters.start.afterOperand _).setAF (.inl (.head _)) _).report _
  | addAN _ | adcAN _ | subN _ | sbcAN _ | andN _ | xorN _ | orN _ | rlca | rrca | rla | rra | daa | cpl =>
    cases h
    exact (KeepsRegisters.start.setAF (.inl (.head _)) _).report _
  | cpB | cpC | cpD | cpE | cpH | cpL | cpAtHl | cpA =>
    cases h
    exact ((KeepsRegisters.start.afterOperand _).setAF (.inr (by simp [AluOp.apply])) _).report _
  | cpN _ =>
    cases h
    exact (KeepsRegisters.start.setAF (.inr rfl) _).report _
  | scf | ccf =>
    cases h
    exact (KeepsRegisters.start.setFlags _).report _
  -- operands: INC, DEC and the instructions behind 0xCB
  | incB | incC | incD | incE | incH | incL | incAtHl | incA | decB | decC | decD | decE | decH | decL
  | decAtHl | decA | rlcB | rlcC | rlcD | rlcE | rlcH | rlcL | rlcAtHl | rlcA | rrcB | rrcC | rrcD | rrcE | rrcH | rrcL
  | rrcAtHl | rrcA | rlB | rlC | rlD | rlE | rlH | rlL | rlAtHl | rlA | rrB | rrC | rrD | rrE | rrH | rrL
  | rrAtHl | rrA | slaB | slaC | slaD | slaE | slaH | slaL | slaAtHl | slaA | sraB | sraC | sraD | sraE
  | sraH | sraL | sraAtHl | sraA | swapB | swapC | swapD | swapE | swapH | swapL | swapAtHl | swapA | srlB
  | srlC | srlD | srlE | srlH | srlL | srlAtHl | srlA =>
    cases h
    exact ((KeepsRegisters.start.modifyOperand (.refl _) _).setFlags _).report _
  | bitB _ | bitC _ | bitD _ | bitE _ | bitH _ | bitL _ | bitAtHl _ | bitA _ =>
    cases h
    exact ((KeepsRegisters.start.afterOperand _).setFlags _).report _
  | resB _ | resC _ | resD _ | resE _ | resH _ | resL _ | resAtHl _ | resA _
  | setB _ | setC _ | setD _ | setE _ | setH _ | setL _ | setAtHl _ | setA _ =>
    cases h
    exact (KeepsRegisters.start.modifyOperand (.refl _) _).report _
  | prefixCb =>
    cases h
    exact KeepsRegisters.prefixCb s
  -- jumps, calls, returns
  | jrE _ | jpNn _ | jpHl =>
    cases h
    exact (KeepsRegisters.start.setPc rfl _).report _
  | callNn _ | rst00 | rst08 | rst10 | rst18 | rst20 | rst28 | rst30 | rst38 =>
    cases h
    exact (KeepsRegisters.call rfl rfl _).report _
  | ret =>
    cases h
    exact (KeepsRegisters.ret rfl rfl).report _
  | reti =>
    cases h
    exact ((KeepsRegisters.ret rfl rfl).setIme _ _).report _
  | callNzNn _ | callZNn _ | callNcNn _ | callCNn _ => exact .branch (.call rfl rfl _) h
  | retNz | retZ | retNc | retC => exact .branch (.ret rfl rfl) h
  | jrNzE _ | jrZE _ | jrNcE _ | jrCE _ | jpNzNn _ | jpZNn _ | jpNcNn _ | jpCNn _ =>
    exact .branch (KeepsRegisters.start.setPc rfl _) h
  -- the CPU latches
  | nop =>
    cases h
    exact KeepsRegisters.start.report _
  | di =>
    cases h
    exact (KeepsRegisters.start.setIme _ _).report _
  | ei =>
    obtain ⟨_, he⟩ := s.enableLater_eq
    cases h
    rw [he]
    exact (KeepsRegisters.start.setIme s.cpu.ime _).report _
  | halt | stop _ =>
    obtain ⟨_, _, he⟩ := s.haltOperation_eq
    cases h
    rw [he]
    exact ⟨fun r _ => by cases r <;> rfl, fun _ => rfl, fun _ => rfl⟩

/-- Settles O29: the registers by `exec_keepsRegisters`, the latches by the frame of `exec` (`exec_answers`). -/
theorem registerFrame : Obligations.RegisterFrame := by
  intro i s t h
  obtain ⟨hreg, hsp, hpc⟩ := exec_keepsRegisters h
  obtain ⟨hinterrupt, hhalt⟩ := (exec_answers h).reaches.keepsLatches
  exact ⟨hreg, hsp, hpc, hinterrupt, hhalt⟩

end Sys2Proof.Machine
end

/-! ## The 8-bit loads (40_load8.md R130 to R149) -/

section
namespace Sys2Proof.Machine

open Forms

/-- What a form's statement says of it: its bytes decode to it, and in every state it answers `answer`. -/
theorem decodes_and_exec {bytes : List Byte} {i : Instr} {answer : State → Result} (he : encode i = bytes)
    (hw : i.wellFormed = true) (hp : i ≠ .prefixCb) (hx : ∀ s, exec i s = answer s) :
    Decodes bytes i ∧ ∀ s, exec i s = answer s :=
  ⟨decodes_of_encode_eq he hw hp, hx⟩

variable (s : State)

theorem loadFrom_a_eq (addr : Word) (n : Nat) :
    loadFrom .a addr n s =
      .next { s.afterRead addr with cpu := { s.cpu with a := s.busRead addr }, cost := n } := by
  simp [loadFrom, State.setReg, State.report]

theorem loadStep_eq (step : Word) :
    loadStep step s = .next { s.afterRead s.hl with
      cpu := { s.cpu with a := s.busRead s.hl, h := hiByte (s.hl + step), l := loByte (s.hl + step) }, cost := 8 } := by
  simp [loadStep, State.setReg, State.setHl, State.report]

theorem storeStep_eq (step : Word) :
    storeStep step s = .next { s.busWrite s.hl s.cpu.a with
      cpu := { s.cpu with h := hiByte (s.hl + step), l := loByte (s.hl + step) }, cost := 8 } := by
  simp [storeStep, State.setHl, State.report]

/-- Settles O6: every row of the three tables has its encoding and its equation of `exec`. -/
theorem Load8.loadRegister : Obligations.LoadRegister := by
  refine ⟨?_, ?_, ?_⟩
  · repeat refine List.forall_mem_cons.mpr ⟨decodes_and_exec rfl rfl nofun fun _ => rfl, ?_⟩
    exact List.forall_mem_nil _
  · repeat refine List.forall_mem_cons.mpr ⟨fun n => decodes_and_exec rfl rfl nofun fun _ => rfl, ?_⟩
    exact List.forall_mem_nil _
  · repeat refine List.forall_mem_cons.mpr ⟨decodes_and_exec rfl rfl nofun fun _ => rfl, ?_⟩
    exact List.forall_mem_nil _

/-- Settles O7: each form stores by `storeTo`; the address of LDH as a pair by `highPage_eq`. -/
theorem stores : Obligations.Stores := by
  refine ⟨⟨?_, fun n => ?_⟩, ?_, ?_, fun nn => ?_, fun n => ?_, ?_⟩
  · repeat refine List.forall_mem_cons.mpr ⟨decodes_and_exec rfl rfl nofun fun _ => rfl, ?_⟩
    exact List.forall_mem_nil _
  all_goals refine decodes_and_exec rfl rfl nofun fun s => ?_
  · rfl
  · rfl
  · rfl
  · rfl
  · rw [exec_ldhAtNA, highPage_eq]
    rfl
  · rw [exec_ldhAtCA, highPage_eq]
    rfl

/-- Settles O8: each load of A is `loadFrom_a_eq` at the form's address, and the forms that move HL are
`loadStep_eq` and `storeStep_eq`. -/
theorem loadAccumulator : Obligations.LoadAccumulator := by
  have hsub : ∀ w : Word, w + -1 = w - 1 := fun w => (sub_eq_add_neg w 1).symm
  refine ⟨⟨?_, ?_, fun nn => ?_, fun n => ?_, ?_⟩, ?_, ?_, ?_, ?_⟩ <;>
    refine decodes_and_exec rfl rfl nofun fun s => ?_
  · exact loadFrom_a_eq s s.bc 8
  · exact loadFrom_a_eq s s.de 8
  · exact loadFrom_a_eq s nn 16
  · rw [← highPage_eq]
    exact loadFrom_a_eq s (highPage n) 12
  · rw [← highPage_eq]
    exact loadFrom_a_eq s (highPage s.cpu.c) 8
  · exact loadStep_eq s 1
  · rw [← hsub]
    exact loadStep_eq s (-1)
  · exact storeStep_eq s 1
  · rw [← hsub]
    exact storeStep_eq s (-1)

end Sys2Proof.Machine
end

/-! ## The 16-bit loads and the stack (41_load16.md R160 to R166, 43_alu16.md R234) -/

section
namespace Sys2Proof.Machine

open Forms

/-- Adding the sign-extended displacement is the signed sum modulo 0x10000. -/
theorem spPlus_fst (sp : Word) (e : Byte) :
    (spPlus sp e).1 = BitVec.ofInt 16 (Int.ofNat sp.toNat + e.toInt) := by
  calc sp + sext16 e
    _ = BitVec.ofInt 16 sp.toNat + BitVec.ofInt 16 e.toInt := by
      rw [sext16_eq, BitVec.ofInt_natCast, BitVec.ofNat_toNat, BitVec.setWidth_eq]
    _ = BitVec.ofInt 16 (Int.ofNat sp.toNat + e.toInt) := (BitVec.ofInt_add _ _).symm

variable (s : State)

theorem push_eq (q : StackPair) :
    push q s = .next { (s.busWrite (s.cpu.sp - 1) (hiByte (s.stackPair q))).busWrite (s.cpu.sp - 2)
      (loByte (s.stackPair q)) with cpu := { s.cpu with sp := s.cpu.sp - 2 }, cost := 16 } := by
  rw [push, State.push16_eq]
  rfl

/-- The registers with the pair `q` written from its two bytes; F takes the upper four bits of the low one (R166). -/
def Cpu.setPairBytes (c : Cpu) (q : StackPair) (hi lo : Byte) : Cpu :=
  match q with
  | .bc => { c with b := hi, c := lo }
  | .de => { c with d := hi, e := lo }
  | .hl => { c with h := hi, l := lo }
  | .af => { c with a := hi, f := Flags.ofByte lo }

theorem State.setStackPair_join (q : StackPair) (hi lo : Byte) :
    s.setStackPair q (join hi lo) = { s with cpu := s.cpu.setPairBytes q hi lo } := by
  cases q <;>
    simp only [State.setStackPair, State.setBc, State.setDe, State.setHl, State.setAF, Cpu.setPairBytes,
      hiByte_join, loByte_join]

theorem pop_eq (q : StackPair) :
    pop q s = .next { (s.afterRead s.cpu.sp).afterRead (s.cpu.sp + 1) with
      cpu := Cpu.setPairBytes { s.cpu with sp := s.cpu.sp + 2 } q
        ((s.afterRead s.cpu.sp).busRead (s.cpu.sp + 1)) (s.busRead s.cpu.sp)
      cost := 12 } := by
  rw [pop, State.afterPop16_eq, State.popped16_eq, State.setStackPair_join]
  rfl

/-- Settles O10: both forms are `spPlus`, whose sum is `spPlus_fst` and whose flags are the statement's. -/
theorem stackPointerPlus : Obligations.StackPointerPlus := by
  refine ⟨fun e => ?_, fun e => ?_⟩ <;> refine decodes_and_exec rfl rfl nofun fun s => ?_
  · rw [exec_ldHlSpE, spPlus_fst]
    rfl
  · rw [exec_addSpE, spPlus_fst]
    rfl

/-- Settles O9: every row of `loadPair`, and the two forms of SP, have their encoding and their equation of `exec`. -/
theorem Load16.loadPair : Obligations.LoadPair := by
  refine ⟨⟨?_, decodes_and_exec rfl rfl nofun fun _ => rfl⟩,
    fun _ => decodes_and_exec rfl rfl nofun fun _ => rfl⟩
  repeat refine List.forall_mem_cons.mpr ⟨fun _ => decodes_and_exec rfl rfl nofun fun _ => rfl, ?_⟩
  exact List.forall_mem_nil _

/-- Settles O11: every form is `push_eq` or `pop_eq` of its pair. -/
theorem pushAndPop : Obligations.PushAndPop := by
  refine ⟨?_, ?_⟩
  · repeat refine List.forall_mem_cons.mpr ⟨decodes_and_exec rfl rfl nofun fun s => push_eq s _, ?_⟩
    exact List.forall_mem_nil _
  · repeat refine List.forall_mem_cons.mpr ⟨decodes_and_exec rfl rfl nofun fun s => pop_eq s _, ?_⟩
    exact List.forall_mem_nil _

end Sys2Proof.Machine
end

/-! ## 8-bit arithmetic and logic (42_alu8.md R180 to R216) -/

section
namespace Sys2Proof.Machine

open Forms

/-! ### The flag computations in the spec's arithmetic -/

theorem ofNat_beq_zero (n : Nat) : (BitVec.ofNat 8 n == 0) = decide (n % 256 = 0) := by
  rw [beq_eq_decide]
  exact decide_eq_decide.mpr BitVec.toNat_inj.symm

theorem add8_eq (a b : Byte) (cin : Bool) :
    add8 a b cin = (BitVec.ofNat 8 (a.toNat + b.toNat + cin.toNat), {
      z := decide ((a.toNat + b.toNat + cin.toNat) % 256 = 0)
      n := false
      h := decide (a.toNat % 16 + b.toNat % 16 + cin.toNat > 0xF)
      c := decide (a.toNat + b.toNat + cin.toNat > 0xFF) }) := by
  rw [add8, ofNat_beq_zero]

/-- Adding 512 first keeps the difference a natural number and is nothing modulo 256. -/
theorem ofInt_difference (a b : Byte) (cin : Bool) :
    BitVec.ofInt 8 (Int.ofNat a.toNat - Int.ofNat (b.toNat + cin.toNat)) =
      BitVec.ofNat 8 (a.toNat + 512 - b.toNat - cin.toNat) := by
  have hb := b.isLt
  have hc := cin.toNat_lt
  apply BitVec.eq_of_toNat_eq
  rw [BitVec.toNat_ofInt, BitVec.toNat_ofNat]
  simp only [Int.ofNat_eq_natCast]
  omega

theorem sub8_eq (a b : Byte) (cin : Bool) :
    sub8 a b cin = (BitVec.ofNat 8 (a.toNat + 512 - b.toNat - cin.toNat), {
      z := decide ((a.toNat + 512 - b.toNat - cin.toNat) % 256 = 0)
      n := true
      h := decide (a.toNat % 16 < b.toNat % 16 + cin.toNat)
      c := decide (a.toNat < b.toNat + cin.toNat) }) := by
  rw [sub8, ofInt_difference, ofNat_beq_zero]

/-- CP takes the flags of the difference and keeps A. -/
theorem cp_apply_eq (a b : Byte) (f : Flags) : AluOp.cp.apply a b f = (a, {
    z := decide ((a.toNat + 512 - b.toNat) % 256 = 0)
    n := true
    h := decide (a.toNat % 16 < b.toNat % 16)
    c := decide (a.toNat < b.toNat) }) := by
  rw [AluOp.apply, sub8_eq]
  rfl

theorem inc8_eq (v : Byte) (f : Flags) :
    inc8 v f = (v + 1, { z := decide (v + 1 = 0), n := false, h := decide (v.toNat % 16 = 15), c := f.c }) := by
  simp only [inc8, beq_eq_decide]

theorem dec8_eq (v : Byte) (f : Flags) :
    dec8 v f = (v - 1, { z := decide (v - 1 = 0), n := true, h := decide (v.toNat % 16 = 0), c := f.c }) := by
  simp only [dec8, beq_eq_decide]

/-- The two halves of the adjustment share no bit. -/
theorem daaAdjustment_eq (six sixty : Prop) [Decidable six] [Decidable sixty] :
    (BitVec.ofNat 8 ((if six then 0x06 else 0) + (if sixty then 0x60 else 0)) : Byte) =
      (if six then 0x06 else 0) ||| (if sixty then 0x60 else 0) := by
  split <;> split <;> rfl

/-- Both branches of DAA say the same of the adjustment, the tests of A counting after an addition only (R213). -/
theorem daa_eq (a : Byte) (f : Flags) : daa a f =
    let six := f.h = true ∨ (f.n = false ∧ a.toNat % 16 > 9)
    let sixty := f.c = true ∨ (f.n = false ∧ a.toNat > 0x99)
    let adj : Byte := BitVec.ofNat 8 ((if six then 0x06 else 0) + (if sixty then 0x60 else 0))
    let r := if f.n then a - adj else a + adj
    (r, { z := decide (r = 0), n := f.n, h := false, c := decide sixty }) := by
  obtain ⟨z, n, h, c⟩ := f
  cases n <;> simp [daa, daaAdjustment_eq, beq_eq_decide]

/-! ### What the shared operations answer -/

theorem Operand8.cost_eq (o : Operand8) (x y : Nat) : o.cost x y = if o = .atHl then y else x := by
  cases o <;> rfl

section
variable (s : State)

/-- An accumulator operation writes A and F alone, beyond what reading its operand does. -/
theorem aluOperand_eq (op : AluOp) (o : Operand8) : aluOperand op o s = .next { s.afterOperand o with
    cpu := { s.cpu with
      a := (op.apply s.cpu.a (s.operand o) s.cpu.f).1, f := (op.apply s.cpu.a (s.operand o) s.cpu.f).2 }
    cost := if o = .atHl then 8 else 4 } := by
  simp only [aluOperand, State.setAF, State.report, State.afterOperand_cpu, Operand8.cost_eq]

theorem aluImmediate_eq (op : AluOp) (n : Byte) : aluImmediate op n s = .next { s with
    cpu := { s.cpu with a := (op.apply s.cpu.a n s.cpu.f).1, f := (op.apply s.cpu.a n s.cpu.f).2 }
    cost := 8 } := rfl

theorem incOperand_eq (o : Operand8) : incOperand o s =
    let r := s.operand o + 1
    let u := (s.afterOperand o).setOperand o r
    .next { u with
      cpu := { u.cpu with
        f := { z := decide (r = 0), n := false, h := decide ((s.operand o).toNat % 16 = 15), c := s.cpu.f.c } }
      cost := if o = .atHl then 12 else 4 } := by
  rw [incOperand, inc8_eq, o.cost_eq]
  rfl

theorem decOperand_eq (o : Operand8) : decOperand o s =
    let r := s.operand o - 1
    let u := (s.afterOperand o).setOperand o r
    .next { u with
      cpu := { u.cpu with
        f := { z := decide (r = 0), n := true, h := decide ((s.operand o).toNat % 16 = 0), c := s.cpu.f.c } }
      cost := if o = .atHl then 12 else 4 } := by
  rw [decOperand, dec8_eq, o.cost_eq]
  rfl

end

/-! ### The forms of the accumulator operations -/

/-- The forms of an accumulator operation on a register and on the byte at HL. -/
def AluOp.forms : AluOp → List (Byte × Instr × Operand8)
  | .add => addForms
  | .adc => adcForms
  | .sub => subForms
  | .sbc => sbcForms
  | .and => andForms
  | .xor => xorForms
  | .or => orForms
  | .cp => cpForms

theorem AluOp.decodes_and_exec_forms (op : AluOp) :
    ∀ x ∈ op.forms, Decodes [x.1] x.2.1 ∧ ∀ s, exec x.2.1 s = aluOperand op x.2.2 s := by
  cases op
  all_goals
    repeat refine List.forall_mem_cons.mpr ⟨decodes_and_exec rfl rfl nofun fun _ => rfl, ?_⟩
    exact List.forall_mem_nil _

/-- The form of an accumulator operation on an immediate: opcode, instruction. -/
def AluOp.immediate : AluOp → Byte × (Byte → Instr)
  | .add => (0xC6, .addAN)
  | .adc => (0xCE, .adcAN)
  | .sub => (0xD6, .subN)
  | .sbc => (0xDE, .sbcAN)
  | .and => (0xE6, .andN)
  | .xor => (0xEE, .xorN)
  | .or => (0xF6, .orN)
  | .cp => (0xFE, .cpN)

theorem AluOp.decodes_and_exec_immediate (op : AluOp) (n : Byte) :
    Decodes [op.immediate.1, n] (op.immediate.2 n) ∧ ∀ s, exec (op.immediate.2 n) s = aluImmediate op n s := by
  cases op <;> exact decodes_and_exec rfl rfl nofun fun _ => rfl

section
variable (op : AluOp) {r : State → Byte → Byte × Flags} (hr : ∀ s b, op.apply s.cpu.a b s.cpu.f = r s b)
include hr

/-- What an operation computes from A, its operand and the old flags is what all its forms answer. -/
theorem AluOp.forms_answer :
    ∀ x ∈ op.forms, Decodes [x.1] x.2.1 ∧ ∀ s, exec x.2.1 s = .next { s.afterOperand x.2.2 with
      cpu := { s.cpu with a := (r s (s.operand x.2.2)).1, f := (r s (s.operand x.2.2)).2 }
      cost := if x.2.2 = .atHl then 8 else 4 } := by
  intro x hx
  obtain ⟨hdecodes, hexec⟩ := op.decodes_and_exec_forms x hx
  exact ⟨hdecodes, fun s => by rw [hexec, aluOperand_eq, hr]⟩

theorem AluOp.immediate_answer (n : Byte) :
    Decodes [op.immediate.1, n] (op.immediate.2 n) ∧ ∀ s, exec (op.immediate.2 n) s =
      .next { s with cpu := { s.cpu with a := (r s n).1, f := (r s n).2 }, cost := 8 } := by
  obtain ⟨hdecodes, hexec⟩ := op.decodes_and_exec_immediate n
  exact ⟨hdecodes, fun s => by rw [hexec, aluImmediate_eq, hr]⟩

end

/-! ### The statements -/

/-- Settles O12: every form is `add8` of A and its operand, which is the statement's sum by `add8_eq`. -/
theorem Alu8.add8 : Obligations.Add8 := by
  have hadd (s : State) (b : Byte) := add8_eq s.cpu.a b false
  have hadc (s : State) (b : Byte) := add8_eq s.cpu.a b s.cpu.f.c
  exact ⟨AluOp.add.forms_answer hadd, AluOp.adc.forms_answer hadc,
    AluOp.add.immediate_answer hadd, AluOp.adc.immediate_answer hadc⟩

/-- Settles O13: every form is `sub8` of A and its operand, which is the statement's difference by `sub8_eq`; CP
takes the flags alone (`cp_apply_eq`). -/
theorem Alu8.sub8 : Obligations.Sub8 := by
  have hsub (s : State) (b : Byte) := sub8_eq s.cpu.a b false
  have hsbc (s : State) (b : Byte) := sub8_eq s.cpu.a b s.cpu.f.c
  have hcp (s : State) (b : Byte) := cp_apply_eq s.cpu.a b s.cpu.f
  exact ⟨AluOp.sub.forms_answer hsub, AluOp.sbc.forms_answer hsbc, AluOp.cp.forms_answer hcp,
    AluOp.sub.immediate_answer hsub, AluOp.sbc.immediate_answer hsbc, AluOp.cp.immediate_answer hcp⟩

/-- Settles O14: `and8`, `xor8` and `or8` are the statement's results and flags as they stand. -/
theorem logic8 : Obligations.Logic8 := by
  have hand (s : State) (b : Byte) : AluOp.and.apply s.cpu.a b s.cpu.f = and8 s.cpu.a b := rfl
  have hxor (s : State) (b : Byte) : AluOp.xor.apply s.cpu.a b s.cpu.f = xor8 s.cpu.a b := rfl
  have hor (s : State) (b : Byte) : AluOp.or.apply s.cpu.a b s.cpu.f = or8 s.cpu.a b := rfl
  exact ⟨AluOp.and.forms_answer hand, AluOp.xor.forms_answer hxor, AluOp.or.forms_answer hor,
    AluOp.and.immediate_answer hand, AluOp.xor.immediate_answer hxor, AluOp.or.immediate_answer hor⟩

/-- Settles O15: every form is `incOperand` or `decOperand`, with the flags of `inc8_eq` and `dec8_eq`. -/
theorem incDec8 : Obligations.IncDec8 := by
  refine ⟨?_, ?_⟩
  · repeat refine List.forall_mem_cons.mpr ⟨decodes_and_exec rfl rfl nofun fun s => incOperand_eq s _, ?_⟩
    exact List.forall_mem_nil _
  · repeat refine List.forall_mem_cons.mpr ⟨decodes_and_exec rfl rfl nofun fun s => decOperand_eq s _, ?_⟩
    exact List.forall_mem_nil _

/-- Settles O16: DAA by `daa_eq`; `cpl`, `scf` and `ccf` are the statement's as they stand. -/
theorem decimalAdjust : Obligations.DecimalAdjust := by
  refine ⟨decodes_and_exec rfl rfl nofun fun s => ?_, decodes_and_exec rfl rfl nofun fun _ => rfl,
    decodes_and_exec rfl rfl nofun fun _ => rfl, decodes_and_exec rfl rfl nofun fun _ => rfl⟩
  rw [exec_daa, daa_eq]
  rfl

end Sys2Proof.Machine
end

/-! ## The flag table (42_alu8.md R183) -/

section
namespace Sys2Proof.Machine

open Forms

/-- From the flags `f` to the flags `g` every flag has changed as the row allows. -/
structure Flags.Follows (row : FlagRow) (f g : Flags) : Prop where
  z : row.z.agrees f.z g.z
  n : row.n.agrees f.n g.n
  h : row.h.agrees f.h g.h
  c : row.c.agrees f.c g.c

/-- The row of an instruction that changes no flag. -/
theorem Flags.Follows.of_eq {f g : Flags} (h : g = f) : f.Follows ⟨.keep, .keep, .keep, .keep⟩ g := by
  subst h
  exact ⟨rfl, rfl, rfl, rfl⟩

/-! ### Operations that keep F -/

section
variable (s : State)

@[simp] theorem State.setReg16_cpu_f (r : Reg16) (v : Word) : (s.setReg16 r v).cpu.f = s.cpu.f := by
  cases r <;> rfl

@[simp] theorem State.setOperand_cpu_f (o : Operand8) (v : Byte) : (s.setOperand o v).cpu.f = s.cpu.f := by
  cases o with
  | reg r => exact s.setReg_cpu_f r v
  | atHl => exact congrArg Cpu.f (s.busWrite_cpu s.hl v)

@[simp] theorem State.push16_cpu_f (v : Word) : (s.push16 v).cpu.f = s.cpu.f := by
  rw [State.push16_eq]

@[simp] theorem State.afterPop16_cpu_f : s.afterPop16.cpu.f = s.cpu.f := by
  rw [State.afterPop16_eq]

@[simp] theorem State.call_cpu_f (v : Word) : (s.call v).cpu.f = s.cpu.f := s.push16_cpu_f s.cpu.pc

@[simp] theorem State.ret_cpu_f : s.ret.cpu.f = s.cpu.f := s.afterPop16_cpu_f

@[simp] theorem State.bitReset_cpu_f (b : BitIndex) (o : Operand8) : (s.bitReset b o).cpu.f = s.cpu.f := by
  simp [State.bitReset]

@[simp] theorem State.bitSet_cpu_f (b : BitIndex) (o : Operand8) : (s.bitSet b o).cpu.f = s.cpu.f := by
  simp [State.bitSet]

@[simp] theorem State.haltOperation_cpu_f : s.haltOperation.cpu.f = s.cpu.f := by
  obtain ⟨_, _, h⟩ := s.haltOperation_eq
  rw [h]

@[simp] theorem State.enableLater_cpu_f : s.enableLater.cpu.f = s.cpu.f := by
  obtain ⟨_, h⟩ := s.enableLater_eq
  rw [h]

theorem branch_cpu_f {s t taken : State} {cc : Cond} {costTaken costNot : Nat} (htaken : taken.cpu.f = s.cpu.f)
    (h : branch cc taken costTaken costNot s = .next t) : t.cpu.f = s.cpu.f := by
  unfold branch at h
  split at h <;> cases h
  · exact htaken
  · rfl

end

/-- The flags of the next state follow the instruction's row: the cases are the rows of the table, and what an
operation clears, sets or copies of F is read off its definition. -/
theorem exec_follows_flagRow {i : Instr} {s t : State} (h : exec i s = .next t) :
    s.cpu.f.Follows (flagRow i) t.cpu.f := by
  cases i with
  | illegal _ => cases h
  -- 8-bit arithmetic and logic
  | addAB | addAC | addAD | addAE | addAH | addAL | addAAtHl | addAA | adcAB | adcAC | adcAD | adcAE | adcAH
  | adcAL | adcAAtHl | adcAA | addAN _ | adcAN _
  | subB | subC | subD | subE | subH | subL | subAtHl | subA | sbcAB | sbcAC | sbcAD | sbcAE | sbcAH | sbcAL
  | sbcAAtHl | sbcAA | cpB | cpC | cpD | cpE | cpH | cpL | cpAtHl | cpA | subN _ | sbcAN _ | cpN _ =>
    cases h
    exact ⟨trivial, rfl, trivial, trivial⟩
  | andB | andC | andD | andE | andH | andL | andAtHl | andA | andN _ | xorB | xorC | xorD | xorE | xorH | xorL
  | xorAtHl | xorA | xorN _ | orB | orC | orD | orE | orH | orL | orAtHl | orA | orN _ | swapB | swapC | swapD
  | swapE | swapH | swapL | swapAtHl | swapA =>
    cases h
    exact ⟨trivial, rfl, rfl, rfl⟩
  | incB | incC | incD | incE | incH | incL | incAtHl | incA | decB | decC | decD | decE | decH | decL
  | decAtHl | decA =>
    cases h
    exact ⟨trivial, rfl, trivial, rfl⟩
  | daa =>
    cases h
    rw [State.report_cpu, State.setAF_cpu, daa_eq]
    exact ⟨trivial, rfl, rfl, trivial⟩
  | cpl | scf =>
    cases h
    exact ⟨rfl, rfl, rfl, rfl⟩
  | ccf =>
    cases h
    exact ⟨rfl, rfl, rfl, trivial⟩
  -- 16-bit arithmetic
  | addHlBc | addHlDe | addHlHl | addHlSp | addSpE _ | ldHlSpE _ =>
    cases h
    exact ⟨rfl, rfl, trivial, trivial⟩
  -- rotates, shifts and bit tests
  | rlca | rrca | rla | rra =>
    cases h
    exact ⟨rfl, rfl, rfl, trivial⟩
  | rlcB | rlcC | rlcD | rlcE | rlcH | rlcL | rlcAtHl | rlcA | rrcB | rrcC | rrcD | rrcE | rrcH | rrcL
  | rrcAtHl | rrcA | rlB | rlC | rlD | rlE | rlH | rlL | rlAtHl | rlA | rrB | rrC | rrD | rrE | rrH | rrL
  | rrAtHl | rrA | slaB | slaC | slaD | slaE | slaH | slaL | slaAtHl | slaA | sraB | sraC | sraD | sraE | sraH
  | sraL | sraAtHl | sraA | srlB | srlC | srlD | srlE | srlH | srlL | srlAtHl | srlA =>
    cases h
    exact ⟨trivial, rfl, rfl, trivial⟩
  | bitB _ | bitC _ | bitD _ | bitE _ | bitH _ | bitL _ | bitAtHl _ | bitA _ =>
    cases h
    exact ⟨trivial, rfl, rfl, rfl⟩
  -- every flag computed
  | popAf | prefixCb =>
    cases h
    exact ⟨trivial, trivial, trivial, trivial⟩
  -- no flag written
  | callNzNn _ | callZNn _ | callNcNn _ | callCNn _ => exact .of_eq (branch_cpu_f (s.call_cpu_f _) h)
  | retNz | retZ | retNc | retC => exact .of_eq (branch_cpu_f s.ret_cpu_f h)
  | jrNzE _ | jrZE _ | jrNcE _ | jrCE _ | jpNzNn _ | jpZNn _ | jpNcNn _ | jpCNn _ =>
    exact .of_eq (branch_cpu_f (by rfl) h)
  | ret | reti =>
    cases h
    exact .of_eq s.ret_cpu_f
  | popBc | popDe | popHl =>
    cases h
    exact .of_eq s.afterPop16_cpu_f
  -- loads, PUSH, INC and DEC of a pair, RES and SET, jumps and calls, the CPU latches: by the lemmas above
  | _ =>
    cases h
    exact .of_eq (by simp)

/-- Settles O30, by `exec_follows_flagRow`. -/
theorem flagTable : Obligations.FlagTable := by
  intro i s t h
  obtain ⟨hz, hn, hh, hc⟩ := exec_follows_flagRow h
  exact ⟨hz, hn, hh, hc⟩

end Sys2Proof.Machine
end

/-! ## 16-bit arithmetic (43_alu16.md R231 to R233) -/

section
namespace Sys2Proof.Machine

open Forms

/-! ### The bytes of a sum -/

/-- The bits of the sum above bit 15 are in neither byte. -/
theorem hiByte_add (a b : Word) : hiByte (a + b) = BitVec.ofNat 8 ((a.toNat + b.toNat) / 256) := by
  apply BitVec.eq_of_toNat_eq
  rw [hiByte_toNat, BitVec.toNat_add, BitVec.toNat_ofNat]
  omega

theorem loByte_add (a b : Word) : loByte (a + b) = BitVec.ofNat 8 (a.toNat + b.toNat) := by
  apply BitVec.eq_of_toNat_eq
  rw [loByte_toNat, BitVec.toNat_add, BitVec.toNat_ofNat]
  omega

/-- ADD HL,rr writes H, L and the flags but Z, from the sum as a natural number (R231). -/
theorem addToHl_eq (s : State) (r : Reg16) :
    addToHl r s =
      let a := s.hl.toNat
      let b := (s.reg16 r).toNat
      .next { s with
        cpu := { s.cpu with
          h := BitVec.ofNat 8 ((a + b) / 256), l := BitVec.ofNat 8 (a + b)
          f := { s.cpu.f with
            n := false, h := decide (a % 4096 + b % 4096 > 0xFFF), c := decide (a + b > 0xFFFF) } }
        cost := 8 } := by
  simp only [addToHl, addHl, State.setHl, State.setFlags, State.report, hiByte_add, loByte_add]

/-- Settles O17: every form of ADD is `addToHl_eq` of its pair; INC and DEC write the pair alone, as their equations
of `exec` say. -/
theorem pairArithmetic : Obligations.PairArithmetic := by
  refine ⟨?_, ?_, ?_⟩
  · repeat refine List.forall_mem_cons.mpr ⟨decodes_and_exec rfl rfl nofun fun s => addToHl_eq s _, ?_⟩
    exact List.forall_mem_nil _
  · repeat refine List.forall_mem_cons.mpr ⟨decodes_and_exec rfl rfl nofun fun _ => rfl, ?_⟩
    exact List.forall_mem_nil _
  · repeat refine List.forall_mem_cons.mpr ⟨decodes_and_exec rfl rfl nofun fun _ => rfl, ?_⟩
    exact List.forall_mem_nil _

end Sys2Proof.Machine
end

/-! ## Rotates, shifts and bits (44_rotate_shift_bit.md R240 to R267) -/

section
namespace Sys2Proof.Machine

open Forms RotOp

/-! ### The rotation or shift each function is, the two compared bit by bit -/

section
variable (v : Byte) (c : Bool)

theorem RotOp.apply_rlc : RotOp.rlc.apply v c = (v.rotateLeft 1, v.msb) := by
  have hresult : v.extractLsb' 0 7 ++ v.extractLsb' 7 1 = v.rotateLeft 1 := by grind
  exact Prod.ext hresult rfl

theorem RotOp.apply_rrc : RotOp.rrc.apply v c = (v.rotateRight 1, v.getLsbD 0) := by
  have hresult : v.extractLsb' 0 1 ++ v.extractLsb' 1 7 = v.rotateRight 1 := by grind
  exact Prod.ext hresult rfl

theorem RotOp.apply_rl : RotOp.rl.apply v c = (v <<< 1 ||| (BitVec.ofBool c).setWidth 8, v.msb) := by
  have hresult : v.extractLsb' 0 7 ++ BitVec.ofBool c = v <<< 1 ||| (BitVec.ofBool c).setWidth 8 := by grind
  exact Prod.ext hresult rfl

theorem RotOp.apply_rr :
    RotOp.rr.apply v c = (v >>> 1 ||| (BitVec.ofBool c).setWidth 8 <<< 7, v.getLsbD 0) := by
  have hresult : BitVec.ofBool c ++ v.extractLsb' 1 7 = v >>> 1 ||| (BitVec.ofBool c).setWidth 8 <<< 7 := by grind
  exact Prod.ext hresult rfl

theorem RotOp.apply_sla : RotOp.sla.apply v c = (v <<< 1, v.msb) := by
  have hresult : v <<< 1 = v.extractLsb' 0 7 ++ 0#1 := BitVec.shiftLeft_eq_concat_of_lt (by decide)
  exact Prod.ext hresult.symm rfl

theorem RotOp.apply_sra : RotOp.sra.apply v c = (v.sshiftRight 1, v.getLsbD 0) := by
  have hresult : v.extractLsb' 7 1 ++ v.extractLsb' 1 7 = v.sshiftRight 1 := by grind
  exact Prod.ext hresult rfl

theorem RotOp.apply_swap : RotOp.swap.apply v c = (v.rotateLeft 4, false) := by
  have hresult : v.extractLsb' 0 4 ++ v.extractLsb' 4 4 = v.rotateLeft 4 := by grind
  exact Prod.ext hresult rfl

theorem RotOp.apply_srl : RotOp.srl.apply v c = (v >>> 1, v.getLsbD 0) := by
  have hresult : v >>> 1 = 0#1 ++ v.extractLsb' 1 7 := BitVec.ushiftRight_eq_extractLsb'_of_lt (by decide)
  exact Prod.ext hresult.symm rfl

end

/-! ### What the shared operations answer -/

theorem rotateA_of_apply {s : State} {op : RotOp} {a : Byte} {co : Bool}
    (h : op.apply s.cpu.a s.cpu.f.c = (a, co)) : rotateA op s = .next { s with
      cpu := { s.cpu with a := a, f := { z := false, n := false, h := false, c := co } }, cost := 4 } := by
  rw [rotateA, h]
  rfl

section
variable (s : State)

theorem State.rotated_eq (op : RotOp) (o : Operand8) : s.rotated op o =
    let r := op.apply (s.operand o) s.cpu.f.c
    let u := (s.afterOperand o).setOperand o r.1
    { u with
      cpu := { u.cpu with f := { z := decide (r.1 = 0), n := false, h := false, c := r.2 } }
      cost := if o = .atHl then 16 else 8 } := by
  simp only [State.rotated, State.setFlags, State.report, rotFlags, beq_eq_decide, o.cost_eq]

theorem State.bitTested_eq (b : BitIndex) (o : Operand8) : s.bitTested b o = { s.afterOperand o with
    cpu := { s.cpu with f := { z := !(s.operand o).getLsbD b.toNat, n := false, h := true, c := s.cpu.f.c } }
    cost := if o = .atHl then 12 else 8 } := by
  simp only [State.bitTested, State.setFlags, State.report, bitFlags, State.afterOperand_cpu, o.cost_eq]

theorem State.bitReset_eq (b : BitIndex) (o : Operand8) : s.bitReset b o =
    { (s.afterOperand o).setOperand o (s.operand o &&& ~~~(1#8 <<< b.toNat)) with
      cost := if o = .atHl then 16 else 8 } := by
  simp only [State.bitReset, State.report, bitMask, o.cost_eq]

theorem State.bitSet_eq (b : BitIndex) (o : Operand8) : s.bitSet b o =
    { (s.afterOperand o).setOperand o (s.operand o ||| 1#8 <<< b.toNat) with
      cost := if o = .atHl then 16 else 8 } := by
  simp only [State.bitSet, State.report, bitMask, o.cost_eq]

end

/-! ### The forms of the instructions behind 0xCB -/

theorem rotateForms_decodes_and_exec :
    ∀ x ∈ rotateForms, Decodes [0xCB, x.1] x.2.1 ∧ ∀ s, exec x.2.1 s = .next (s.rotated x.2.2.1 x.2.2.2) := by
  repeat refine List.forall_mem_cons.mpr ⟨decodes_and_exec rfl rfl nofun fun _ => rfl, ?_⟩
  exact List.forall_mem_nil _

/-- The three operations on one bit: BIT, RES and SET. -/
inductive BitOp where
  | bit | res | set

/-- The field x of the second byte (30_encoding.md R113). -/
def BitOp.code : BitOp → Nat
  | .bit => 1
  | .res => 2
  | .set => 3

def BitOp.forms : BitOp → List (Byte × (BitIndex → Instr) × Operand8)
  | .bit => bitForms
  | .res => resForms
  | .set => setForms

/-- The state after the operation on bit `b` of an operand. -/
def BitOp.after (op : BitOp) (s : State) (b : BitIndex) (o : Operand8) : State :=
  match op with
  | .bit => s.bitTested b o
  | .res => s.bitReset b o
  | .set => s.bitSet b o

/-- The bit number stands in bits 5:3 of the second byte. -/
theorem bitByte_eq_add : ∀ (x : BitVec 2) (b : BitIndex) (z : BitVec 3),
    bitByte x b z = bitByte x 0 z + 8 * b.setWidth 8 := by decide

theorem BitOp.decodes_and_exec_forms (op : BitOp) : ∀ x ∈ op.forms, ∀ b : BitIndex,
    Decodes [0xCB, x.1 + 8 * b.setWidth 8] (x.2.1 b) ∧ ∀ s, exec (x.2.1 b) s = .next (op.after s b x.2.2) := by
  have hbytes (x : BitVec 2) (b : BitIndex) (z : BitVec 3) :
      ([0xCB, bitByte x b z] : List Byte) = [0xCB, bitByte x 0 z + 8 * b.setWidth 8] := by rw [← bitByte_eq_add]
  cases op
  all_goals
    repeat refine List.forall_mem_cons.mpr ⟨fun b => decodes_and_exec (hbytes _ b _) rfl nofun fun _ => rfl, ?_⟩
    exact List.forall_mem_nil _

/-- What an operation makes of a state, a bit and an operand is what all its forms answer. -/
theorem BitOp.forms_answer (op : BitOp) {answer : State → BitIndex → Operand8 → State}
    (h : ∀ s b o, op.after s b o = answer s b o) : ∀ x ∈ op.forms, ∀ b : BitIndex,
    Decodes [0xCB, x.1 + 8 * b.setWidth 8] (x.2.1 b) ∧ ∀ s, exec (x.2.1 b) s = .next (answer s b x.2.2) := by
  intro x hx b
  obtain ⟨hdecodes, hexec⟩ := op.decodes_and_exec_forms x hx b
  exact ⟨hdecodes, fun s => by rw [hexec, h]⟩

/-! ### The statements -/

/-- Settles O18: the accumulator forms are `rotateA` of the functions the first clause names. -/
theorem rotateAccumulator : Obligations.RotateAccumulator :=
  ⟨fun v c => ⟨apply_rlc v c, apply_rrc v c, apply_rl v c, apply_rr v c, apply_sla v c, apply_sra v c,
      apply_swap v c, apply_srl v c⟩,
    decodes_and_exec rfl rfl nofun fun _ => rotateA_of_apply (apply_rlc _ _),
    decodes_and_exec rfl rfl nofun fun _ => rotateA_of_apply (apply_rl _ _),
    decodes_and_exec rfl rfl nofun fun _ => rotateA_of_apply (apply_rrc _ _),
    decodes_and_exec rfl rfl nofun fun _ => rotateA_of_apply (apply_rr _ _)⟩

/-- Settles O19: every form is `State.rotated`, which is the statement's state by `State.rotated_eq`. -/
theorem rotateAndShift : Obligations.RotateAndShift := by
  intro x hx
  obtain ⟨hdecodes, hexec⟩ := rotateForms_decodes_and_exec x hx
  exact ⟨hdecodes, fun s => by rw [hexec, State.rotated_eq]⟩

/-- Settles O20: every form is its operation's `after`, written out by the lemma of the operation. -/
theorem bitInstructions : Obligations.BitInstructions :=
  ⟨BitOp.bit.forms_answer State.bitTested_eq, BitOp.res.forms_answer State.bitReset_eq,
    BitOp.set.forms_answer State.bitSet_eq⟩

end Sys2Proof.Machine
end

/-! ## The byte 0xCB taken alone (44_rotate_shift_bit.md R245, 30_encoding.md R113) -/

section
namespace Sys2Proof.Machine

open Forms

/-- A second byte with x = 0 is the row of `rotateForms` that its fields y and z name. -/
theorem decodeCb_mem_rotateForms : ∀ op2 : Byte, (op2.extractLsb' 6 2).toNat = 0 →
    (op2, decodeCb op2, RotOp.ofCode (op2.extractLsb' 3 3), Operand8.ofCode (op2.extractLsb' 0 3)) ∈
      rotateForms := by decide

/-- A second byte with another x is a row of that operation, at the bit y and the operand z. -/
theorem BitOp.decodeCb_eq_form (op : BitOp) : ∀ op2 : Byte, (op2.extractLsb' 6 2).toNat = op.code →
    ∃ x ∈ op.forms,
      decodeCb op2 = x.2.1 (op2.extractLsb' 3 3) ∧ x.2.2 = Operand8.ofCode (op2.extractLsb' 0 3) := by
  cases op <;> decide

theorem BitOp.exec_decodeCb (op : BitOp) {op2 : Byte} (hx : (op2.extractLsb' 6 2).toNat = op.code) (s : State) :
    exec (decodeCb op2) s =
      .next (op.after s (op2.extractLsb' 3 3) (Operand8.ofCode (op2.extractLsb' 0 3))) := by
  obtain ⟨x, hmem, hinstr, hoperand⟩ := op.decodeCb_eq_form op2 hx
  obtain ⟨-, hexec⟩ := op.decodes_and_exec_forms x hmem (op2.extractLsb' 3 3)
  rw [hinstr, hexec, hoperand]

/-- What 0xCB taken alone does with the second byte is what the instruction decoded from the pair does. -/
theorem exec_decodeCb (op2 : Byte) (s : State) : exec (decodeCb op2) s = .next (s.cbOperation op2) := by
  unfold State.cbOperation
  split
  next hx => exact (rotateForms_decodes_and_exec _ (decodeCb_mem_rotateForms op2 hx)).2 s
  next hx => exact BitOp.bit.exec_decodeCb hx s
  next hx => exact BitOp.res.exec_decodeCb hx s
  next h0 h1 h2 =>
    have hthree : ∀ x : BitVec 2, x.toNat ≠ 0 → x.toNat ≠ 1 → x.toNat ≠ 2 → x.toNat = 3 := by decide
    exact BitOp.set.exec_decodeCb (hthree _ h0 h1 h2) s

theorem decode_cb (op2 : Byte) : decode [0xCB, op2] = .ok (decodeCb op2, []) :=
  decode_append (op := 0xCB) (ops := [op2]) rfl []

/-- Settles O21: the pair decodes to `decodeCb` of its second byte, and `exec_decodeCb` says what that does. -/
theorem cbPrefix : Obligations.CbPrefix := by
  intro s i h
  cases (decode_cb _).symm.trans h
  exact ⟨(exec_decodeCb _ _).symm, _, rfl⟩

end Sys2Proof.Machine
end

/-! ## Control transfer (45_control.md R280 to R291) -/

section
namespace Sys2Proof.Machine

open Forms

/-- `cond(cc)` of the four conditions (R280). -/
theorem Cond.holds_iff (f : Flags) :
    (Cond.nz.holds f = true ↔ f.z = false) ∧ (Cond.z.holds f = true ↔ f.z = true) ∧
      (Cond.nc.holds f = true ↔ f.c = false) ∧ (Cond.c.holds f = true ↔ f.c = true) := by
  simp only [Cond.holds, Bool.not_eq_true', and_self]

variable (s : State)

/-- A conditional transfer that answers `answer` when taken; untaken, it changes the cost alone (R280). -/
theorem branch_eq {cc : Cond} {taken : State} {costTaken costNot : Nat} {answer : Result}
    (htaken : .next (taken.report costTaken) = answer) :
    branch cc taken costTaken costNot s =
      if cc.holds s.cpu.f then answer else .next { s with cost := costNot } := by
  rw [branch, htaken]
  rfl

/-- A relative target is the signed sum modulo 0x10000, by the lemma of `ADD SP,e` (R284). -/
theorem next_jumpRelative_eq (e : Byte) (n : Nat) :
    (.next ((s.setPc (s.cpu.pc + sext16 e)).report n) : Result) =
      .next { s with
        cpu := { s.cpu with pc := BitVec.ofInt 16 (Int.ofNat s.cpu.pc.toNat + e.toInt) }, cost := n } := by
  have htarget : s.cpu.pc + sext16 e = _ := spPlus_fst s.cpu.pc e
  rw [htarget]
  rfl

/-- Pushing PC, high byte first, and jumping (R286, R291). -/
theorem next_call_eq (target : Word) (n : Nat) :
    (.next ((s.call target).report n) : Result) =
      .next { (s.busWrite (s.cpu.sp - 1) (hiByte s.cpu.pc)).busWrite (s.cpu.sp - 2) (loByte s.cpu.pc) with
        cpu := { s.cpu with sp := s.cpu.sp - 2, pc := target }, cost := n } := by
  rw [State.call, State.push16_eq]
  rfl

/-- Popping PC, low byte first (R288). -/
theorem State.ret_eq :
    s.ret = { (s.afterRead s.cpu.sp).afterRead (s.cpu.sp + 1) with
      cpu := { s.cpu with
        sp := s.cpu.sp + 2
        pc := join ((s.afterRead s.cpu.sp).busRead (s.cpu.sp + 1)) (s.busRead s.cpu.sp) } } := by
  rw [State.ret, State.afterPop16_eq, State.popped16_eq]
  rfl

theorem State.returnFromInterrupt_eq : s.returnFromInterrupt = s.ret.setIme true false := rfl

/-- Settles O22: the absolute jumps by their equations of `exec`, the relative ones by `next_jumpRelative_eq`. -/
theorem jumps : Obligations.Jumps := by
  refine ⟨Cond.holds_iff, fun _ => decodes_and_exec rfl rfl nofun fun _ => rfl, ?_,
    decodes_and_exec rfl rfl nofun fun _ => rfl,
    fun e => decodes_and_exec rfl rfl nofun fun s => next_jumpRelative_eq s e 12, ?_⟩
  · repeat refine List.forall_mem_cons.mpr ⟨fun _ => decodes_and_exec rfl rfl nofun fun s =>
      branch_eq s rfl, ?_⟩
    exact List.forall_mem_nil _
  · repeat refine List.forall_mem_cons.mpr ⟨fun e => decodes_and_exec rfl rfl nofun fun s =>
      branch_eq s (next_jumpRelative_eq s e 12), ?_⟩
    exact List.forall_mem_nil _

/-- Settles O23: every form is `State.call`, written out by `next_call_eq`; the conditional ones by `branch_eq`. -/
theorem callsAndRestarts : Obligations.CallsAndRestarts := by
  refine ⟨fun nn => decodes_and_exec rfl rfl nofun fun s => next_call_eq s nn 24, ?_, ?_⟩
  · repeat refine List.forall_mem_cons.mpr ⟨fun nn => decodes_and_exec rfl rfl nofun fun s =>
      branch_eq s (next_call_eq s nn 24), ?_⟩
    exact List.forall_mem_nil _
  · repeat refine List.forall_mem_cons.mpr ⟨decodes_and_exec rfl rfl nofun fun s => next_call_eq s _ 16, ?_⟩
    exact List.forall_mem_nil _

/-- Settles O24: every form is `State.ret`, written out by `State.ret_eq`; `RETI` sets IME after it. -/
theorem returns : Obligations.Returns := by
  refine ⟨decodes_and_exec rfl rfl nofun fun s => ?_, ?_, decodes_and_exec rfl rfl nofun fun s => ?_⟩
  · rw [exec_ret, State.ret_eq]
    rfl
  · repeat refine List.forall_mem_cons.mpr ⟨decodes_and_exec rfl rfl nofun fun s =>
      branch_eq s (by rw [State.ret_eq]; rfl), ?_⟩
    exact List.forall_mem_nil _
  · rw [exec_reti, State.returnFromInterrupt_eq, State.ret_eq]
    rfl

end Sys2Proof.Machine
end

/-! ## NOP, DI, EI, HALT and STOP (46_misc.md R300 to R304) and the halted steps (60_exceptions.md R328) -/

section
namespace Sys2Proof.Machine

variable (s : State)

/-- Setting IME late changes `ei_pending` alone, and only while IME is 0 (R304). -/
theorem State.enableLater_eq_ite :
    s.enableLater =
      { s with cpu := { s.cpu with eiPending := if s.cpu.ime then s.cpu.eiPending else true } } := by
  unfold State.enableLater
  cases hime : s.cpu.ime with
  | true => rfl
  | false =>
    calc s.setIme false true
      _ = s.setIme s.cpu.ime true := by rw [hime]
      _ = _ := rfl

/-- The Operation of `HALT` and `STOP`, reported: the latch or the halt, and the cost 4 (R301, R302). -/
theorem next_haltOperation_eq :
    (.next (s.haltOperation.report 4) : Result) =
      if s.cfg.haltBug = true ∧ s.cpu.ime = false ∧ s.irq.enable.extractLsb' 0 5 &&& s.irq.flags ≠ 0 then
        .next { s with cpu := { s.cpu with haltbugLatch := true }, cost := 4 }
      else .next { s with cpu := { s.cpu with halted := true }, cost := 4 } := by
  rw [State.haltOperation, apply_ite (fun t : State => (.next (t.report 4) : Result))]
  rfl

variable {s}

/-- A halted machine with no enabled request neither wakes nor dispatches: the devices alone advance (R301). -/
theorem step_idle (hp : s.powered = true) (ha : s.cfg.accepted = true) (ho : s.env.powerOffNow = false)
    (hh : s.cpu.halted = true) (hpend : s.pending = 0) : step s = .next (s.report 4).advance := by
  have hwake : s.wake = s := if_neg fun h => h.2 hpend
  rw [step_running hp ha ho, State.cpuPhase, hwake]
  obtain ⟨_, hne, _⟩ | ⟨_, _, hi⟩ | ⟨_, hawake, _⟩ := s.awakePhase_cases
  · exact absurd hpend hne
  · rw [hi]
    rfl
  · cases hh.symm.trans hawake

/-- Settles O25: both as their equations of `exec` stand. -/
theorem nopAndDi : Obligations.NopAndDi :=
  ⟨decodes_and_exec rfl rfl nofun exec_nop, decodes_and_exec rfl rfl nofun exec_di⟩

/-- Settles O26: with IME 0 no dispatch is due, so the step executes the instruction at PC (`step_execute`), the
pending EI carried out by `State.awakened`. -/
theorem enableInterrupts : Obligations.EnableInterrupts := by
  refine ⟨decodes_and_exec rfl rfl nofun fun s => ?_, fun s hp ha ho hh hime hei => ?_⟩
  · rw [exec_ei, State.enableLater_eq_ite]
    rfl
  · have hawake :
        s.awakened = { s with cpu := { s.cpu with ime := true, eiPending := false } } := by
      simp only [State.awakened, hh, hime, hei, Bool.or_true]
    rw [step_execute hp ha ho (by simp [hime]) (by simp [hh]), hawake]

/-- Settles O27: both are `State.haltOperation`, whatever the pad byte. -/
theorem haltAndStop : Obligations.HaltAndStop :=
  ⟨decodes_and_exec rfl rfl nofun next_haltOperation_eq,
    fun _ => decodes_and_exec rfl rfl nofun next_haltOperation_eq⟩

/-- Settles O54: the idle step by `step_idle`; with IME 0 the halted machine and the awake one execute from the same
state (`step_execute`), which `State.awakened` gives with IME the pending EI. -/
theorem haltedSteps : Obligations.HaltedSteps := by
  refine ⟨fun _ => step_idle, fun s hp ha ho hh hime hpend => ?_⟩
  have hexec : step s = finishStep s.awakened.executeInstruction :=
    step_execute hp ha ho (by simp [hime]) fun _ => hpend
  constructor
  · rw [hexec, step_execute (s := { s with cpu := { s.cpu with halted := false } }) hp ha ho (by simp [hime]) nofun]
    rfl
  · rw [hexec, State.awakened, hime, Bool.false_or]

end Sys2Proof.Machine
end

/-! ## The timer's ticks (61_timer.md R361 to R368) -/

section
namespace Sys2Proof.Machine

open Forms

variable {t : Timer}

/-! ### One tick -/

@[simp] theorem Timer.tickDiv_tima (t : Timer) : t.tickDiv.tima = t.tima := by
  unfold Timer.tickDiv; split <;> rfl
@[simp] theorem Timer.tickDiv_timaCnt (t : Timer) : t.tickDiv.timaCnt = t.timaCnt := by
  unfold Timer.tickDiv; split <;> rfl
@[simp] theorem Timer.tickDiv_tma (t : Timer) : t.tickDiv.tma = t.tma := by
  unfold Timer.tickDiv; split <;> rfl
@[simp] theorem Timer.tickDiv_tac (t : Timer) : t.tickDiv.tac = t.tac := by
  unfold Timer.tickDiv; split <;> rfl

/-- The counter's part of a tick changes TIMA and its prescaler, nothing else (R366). -/
theorem Timer.tickTima_eq (t : Timer) :
    t.tickTima.1 = { t with tima := t.tickTima.1.tima, timaCnt := t.tickTima.1.timaCnt } := by
  unfold Timer.tickTima
  repeat' split
  all_goals rfl

@[simp] theorem Timer.tick_tma (t : Timer) : t.tick.1.tma = t.tma := by
  rw [Timer.tick, Timer.tickTima_eq, Timer.tickDiv_tma]

@[simp] theorem Timer.tick_tac (t : Timer) : t.tick.1.tac = t.tac := by
  rw [Timer.tick, Timer.tickTima_eq, Timer.tickDiv_tac]

@[simp] theorem Timer.tickDiv_enabled (t : Timer) : t.tickDiv.enabled = t.enabled := by
  simp only [Timer.enabled, Timer.tickDiv_tac]

@[simp] theorem Timer.tick_enabled (t : Timer) : t.tick.1.enabled = t.enabled := by
  simp only [Timer.enabled, Timer.tick_tac]

/-- A disabled counter holds (R364). -/
theorem Timer.tick_off (h : t.enabled = false) : t.tick = (t.tickDiv, 0) := by
  simp [Timer.tick, Timer.tickTima, h]

/-- Inside a period the prescaler counts (R366). -/
theorem Timer.tick_count (he : t.enabled = true) (h : t.timaCnt + 1 < timaPeriod t.tac) :
    t.tick = ({ t.tickDiv with timaCnt := t.timaCnt + 1 }, 0) := by
  simp [Timer.tick, Timer.tickTima, he, h]

/-- The end of a period counts TIMA up (R366). -/
theorem Timer.tick_carry (he : t.enabled = true) (h : timaPeriod t.tac ≤ t.timaCnt + 1)
    (hv : t.tima ≠ 0xFF#8) : t.tick = ({ t.tickDiv with tima := t.tima + 1, timaCnt := 0 }, 0) := by
  simp [Timer.tick, Timer.tickTima, he, h, hv]

/-- The end of the period of 0xFF reloads TMA and raises the request (R368). -/
theorem Timer.tick_overflow (he : t.enabled = true) (h : timaPeriod t.tac ≤ t.timaCnt + 1)
    (hv : t.tima = 0xFF#8) : t.tick = ({ t.tickDiv with tima := t.tma, timaCnt := 0 }, timerRequest) := by
  simp [Timer.tick, Timer.tickTima, he, h, hv]

/-- The only request of the timer is its own (R368). -/
theorem Timer.tick_request (t : Timer) : t.tick.2 = 0 ∨ t.tick.2 = timerRequest := by
  unfold Timer.tick Timer.tickTima
  repeat' split
  all_goals simp

/-! ### The divider -/

/-- One tick counts the divider up by one (R361). -/
theorem Timer.tick_dividerCount (h : t.divCnt < 256) :
    dividerCount t.tick.1 = (dividerCount t + 1) % 0x10000 ∧ t.tick.1.divCnt < 256 := by
  have hdiv := t.div.isLt
  rw [Timer.tick, Timer.tickTima_eq]
  unfold dividerCount Timer.tickDiv divPeriod
  split
  · simp only [BitVec.toNat_add, BitVec.ofNat_eq_ofNat, BitVec.toNat_ofNat]
    omega
  · dsimp only
    omega

theorem Timer.ticks_dividerCount (n : Nat) (h : t.divCnt < 256) :
    dividerCount (t.ticks n).1 = (dividerCount t + n) % 0x10000 ∧ (t.ticks n).1.divCnt < 256 := by
  induction n generalizing t with
  | zero =>
    have hdiv := t.div.isLt
    exact ⟨by simp only [Timer.ticks, dividerCount]; omega, h⟩
  | succ n ih =>
    obtain ⟨hcount, hlt⟩ := Timer.tick_dividerCount h
    obtain ⟨hcounts, hlts⟩ := ih hlt
    exact ⟨by rw [Timer.ticks, hcounts, hcount]; omega, hlts⟩

/-! ### The counter -/

theorem Timer.ticks_tma_tac (t : Timer) (n : Nat) : (t.ticks n).1.tma = t.tma ∧ (t.ticks n).1.tac = t.tac :=
  Timer.ticks_induction (P := fun u => u.tma = t.tma ∧ u.tac = t.tac) (fun u h => by simpa using h) n ⟨rfl, rfl⟩

/-- A disabled counter holds and requests nothing (R364). -/
theorem Timer.ticks_off (n : Nat) (h : t.enabled = false) :
    (t.ticks n).1.tima = t.tima ∧ (t.ticks n).1.timaCnt = t.timaCnt ∧ (t.ticks n).2 = 0 := by
  induction n generalizing t with
  | zero => exact ⟨rfl, rfl, rfl⟩
  | succ n ih =>
    have hrest := ih (t := t.tickDiv) (by simpa using h)
    simpa [Timer.ticks, Timer.tick_off h] using hrest

/-- Settles O46: the divider by `Timer.ticks_dividerCount`, the rest by what one tick keeps. -/
theorem timerCounts : Obligations.TimerCounts := by
  refine ⟨fun t n => Timer.ticks_dividerCount n, fun t n => ?_⟩
  obtain ⟨htma, htac⟩ := t.ticks_tma_tac n
  exact ⟨htma, htac, Timer.ticks_off n⟩

/-- TIMA and its prescaler as one count of cycles. -/
def Timer.counterCount (t : Timer) : Nat := t.tima.toNat * timaPeriod t.tac + t.timaCnt

/-- Short of the overflow one tick counts up by one, stays within the period and requests nothing. -/
theorem Timer.tick_counterCount (he : t.enabled = true) (hcnt : t.timaCnt < timaPeriod t.tac)
    (h : t.counterCount + 1 < 256 * timaPeriod t.tac) :
    t.tick.1.counterCount = t.counterCount + 1 ∧ t.tick.1.timaCnt < timaPeriod t.tac ∧ t.tick.2 = 0 := by
  obtain hlt | heq : t.timaCnt + 1 < timaPeriod t.tac ∨ timaPeriod t.tac = t.timaCnt + 1 := by omega
  · rw [Timer.tick_count he hlt]
    simp [Timer.counterCount, hlt, Nat.add_assoc]
  · have hv : t.tima ≠ 0xFF#8 := by
      intro hff
      simp only [Timer.counterCount, hff, BitVec.toNat_ofNat] at h
      omega
    have hnext : (t.tima + 1).toNat = t.tima.toNat + 1 := by bv_omega
    rw [Timer.tick_carry he heq.le hv]
    simp only [Timer.counterCount, Timer.tickDiv_tac, hnext, Nat.add_mul]
    exact ⟨by omega, by omega, trivial⟩

theorem Timer.ticks_counterCount (m : Nat) (he : t.enabled = true) (hcnt : t.timaCnt < timaPeriod t.tac)
    (h : t.counterCount + m < 256 * timaPeriod t.tac) :
    (t.ticks m).1.counterCount = t.counterCount + m ∧ (t.ticks m).1.timaCnt < timaPeriod t.tac ∧
      (t.ticks m).2 = 0 := by
  induction m generalizing t with
  | zero => exact ⟨rfl, hcnt, rfl⟩
  | succ m ih =>
    obtain ⟨hcount, hlt, hreq⟩ := Timer.tick_counterCount he hcnt (by omega)
    obtain ⟨hcounts, hlts, hreqs⟩ := ih (t := t.tick.1) (by simpa using he) (by simpa using hlt)
      (by rw [hcount, Timer.tick_tac]; omega)
    refine ⟨by rw [Timer.ticks, hcounts, hcount]; omega, by simpa [Timer.ticks] using hlts, ?_⟩
    simp [Timer.ticks, hreq, hreqs]

/-- The last count of all is the last cycle of the period of 0xFF. -/
theorem Timer.eq_of_counterCount_last (hcnt : t.timaCnt < timaPeriod t.tac)
    (h : t.counterCount + 1 = 256 * timaPeriod t.tac) : timaPeriod t.tac ≤ t.timaCnt + 1 ∧ t.tima = 0xFF#8 := by
  have hv : ¬ t.tima.toNat ≤ 254 := by
    intro hle
    have := Nat.mul_le_mul_right (timaPeriod t.tac) hle
    simp only [Timer.counterCount] at h
    omega
  have hff : t.tima = 0xFF#8 := by bv_omega
  refine ⟨?_, hff⟩
  simp only [Timer.counterCount, hff, BitVec.toNat_ofNat] at h
  omega

theorem timaPeriod_pos (tac : Byte) : 0 < timaPeriod tac := by
  unfold timaPeriod
  split <;> decide

/-- Settles O47: short of the overflow the count rises by one a tick (`Timer.ticks_counterCount`), so the last of
the cycles meets TIMA 0xFF at the end of its period (`Timer.tick_overflow`). -/
theorem counterOverflows : Obligations.CounterOverflows := by
  intro t he hreload hcleared n
  have hpos := timaPeriod_pos t.tac
  have hn : t.counterCount + n = 256 * timaPeriod t.tac := by
    rw [Timer.counterCount, hreload, hcleared, Nat.add_zero, ← Nat.add_mul]
    congr 1
    omega
  have hbefore (m : Nat) (hm : m < n) :=
    Timer.ticks_counterCount (t := t) m he (hcleared ▸ hpos) (by omega)
  obtain ⟨k, hk⟩ : ∃ k, n = k + 1 := Nat.exists_eq_add_one.mpr (Nat.mul_pos (by omega) hpos)
  obtain ⟨hcount, hlt, hreq⟩ := hbefore k (by omega)
  obtain ⟨htma, htac⟩ := t.ticks_tma_tac k
  have hek : (t.ticks k).1.enabled = true := by rwa [Timer.enabled, htac]
  rw [← htac] at hlt hn
  obtain ⟨hlast, hff⟩ := Timer.eq_of_counterCount_last hlt (by omega)
  have hticks : t.ticks n = ({ (t.ticks k).1.tickDiv with tima := t.tma, timaCnt := 0 }, timerRequest) := by
    rw [hk, Timer.ticks_add]
    simp [Timer.ticks, Timer.tick_overflow hek hlast hff, hreq, htma]
  rw [hticks]
  refine ⟨rfl, rfl, rfl, fun m hm => ?_⟩
  obtain ⟨_, _, hquiet⟩ := hbefore m hm
  exact hquiet

end Sys2Proof.Machine
end

/-! ## The display's ticks (62_display_timing.md R381 to R395, R401) -/

section
namespace Sys2Proof.Machine

open Forms

variable {d : Lcd}

/-! ### One tick -/

/-- The dot whose tick leaves the mode or the line (R381). -/
def Mode.lastDot : Mode → Nat
  | .searchOam => 79
  | .transfer => 251
  | .hblank | .vblank => 455

theorem Lcd.tick_off (h : d.enabled = false) : d.tick = (d, 0) := by
  simp [Lcd.tick, h]

/-- Before the last dot of a mode only the dot counts (R386). -/
theorem Lcd.tick_within (he : d.enabled = true) (h : d.dot ≠ d.mode.lastDot) :
    d.tick = ({ d with dot := d.dot + 1 }, 0) := by
  cases hm : d.mode with
  | _ =>
    rw [hm] at h
    simp only [Lcd.tick, he, hm, if_true]
    exact if_neg fun hd => h (Nat.succ.inj hd)

/-- The end of SearchOAM (R387). -/
theorem Lcd.tick_endSearchOam (he : d.enabled = true) (hm : d.mode = .searchOam) (h : d.dot = 79) :
    d.tick = ({ d with dot := 80, mode := .transfer }, 0) := by
  simp [Lcd.tick, he, hm, h]

/-- The end of Transfer (R388). -/
theorem Lcd.tick_endTransfer (he : d.enabled = true) (hm : d.mode = .transfer) (h : d.dot = 251) :
    d.tick = ({ d with dot := 252, mode := .hblank }, d.statIf 0) := by
  simp [Lcd.tick, he, hm, h, Lcd.statIf]

theorem Lcd.tick_endHblank (he : d.enabled = true) (hm : d.mode = .hblank) (h : d.dot = 455) :
    d.tick = d.endVisibleLine := by
  simp only [Lcd.tick, he, hm, h, if_true]
  rfl

theorem Lcd.tick_endVblank (he : d.enabled = true) (hm : d.mode = .vblank) (h : d.dot = 455) :
    d.tick = d.endVblankLine := by
  simp [Lcd.tick, Lcd.endVblankLine, he, hm, h, Lcd.coincidence, Lcd.statIf]

/-- What one tick of a display that is on can be. -/
theorem Lcd.tick_cases (he : d.enabled = true) :
    (d.dot ≠ d.mode.lastDot ∧ d.tick = ({ d with dot := d.dot + 1 }, 0)) ∨
    (d.mode = .searchOam ∧ d.tick = ({ d with dot := 80, mode := .transfer }, 0)) ∨
    (d.mode = .transfer ∧ d.tick = ({ d with dot := 252, mode := .hblank }, d.statIf 0)) ∨
    (d.mode = .hblank ∧ d.dot = 455 ∧ d.tick = d.endVisibleLine) ∨
    (d.mode = .vblank ∧ d.dot = 455 ∧ d.tick = d.endVblankLine) := by
  by_cases h : d.dot = d.mode.lastDot
  · cases hm : d.mode with
    | searchOam => exact .inr (.inl ⟨rfl, Lcd.tick_endSearchOam he hm (by rwa [hm] at h)⟩)
    | transfer => exact .inr (.inr (.inl ⟨rfl, Lcd.tick_endTransfer he hm (by rwa [hm] at h)⟩))
    | hblank =>
      rw [hm] at h
      exact .inr (.inr (.inr (.inl ⟨rfl, h, Lcd.tick_endHblank he hm h⟩)))
    | vblank =>
      rw [hm] at h
      exact .inr (.inr (.inr (.inr ⟨rfl, h, Lcd.tick_endVblank he hm h⟩)))
  · exact .inl ⟨h, Lcd.tick_within he h⟩

/-! ### The end of a line -/

/-- The last visible line ends in VBlank (R390). -/
theorem Lcd.endVisibleLine_last (h : d.ly = 143) :
    d.endVisibleLine = ({ d with ly := 144, dot := 0, mode := .vblank },
      { d with ly := 144 }.coincidence ||| vblankRequest ||| d.statIf 1) := by
  simp [Lcd.endVisibleLine, h, Lcd.coincidence, Lcd.statIf]

/-- Any other visible line ends in the next one (R389). -/
theorem Lcd.endVisibleLine_next (h : d.ly ≠ 143#8) :
    d.endVisibleLine = ({ d with ly := d.ly + 1, dot := 0, mode := .searchOam },
      { d with ly := d.ly + 1 }.coincidence ||| d.statIf 2) := by
  have hne : d.ly + 1#8 ≠ 144#8 := by bv_omega
  simp [Lcd.endVisibleLine, hne, Lcd.coincidence, Lcd.statIf]

/-- The last line of VBlank ends in a new frame (R391). -/
theorem Lcd.endVblankLine_last (h : d.ly = 153) :
    d.endVblankLine = ({ d with ly := 0, dot := 0, mode := .searchOam },
      d.statIf 2 ||| { d with ly := 0 }.coincidence) := by
  simp [Lcd.endVblankLine, h, Lcd.coincidence, Lcd.statIf]

/-- Any other line of VBlank ends in the next one (R391). -/
theorem Lcd.endVblankLine_next (h : d.ly ≠ 153#8) :
    d.endVblankLine = ({ d with ly := d.ly + 1, dot := 0 }, { d with ly := d.ly + 1 }.coincidence) := by
  have hne : d.ly + 1#8 ≠ 154#8 := by bv_omega
  simp [Lcd.endVblankLine, hne, Lcd.coincidence, Lcd.statIf]

/-! ### The structure of a frame -/

/-- The display at a line and a dot, in the mode R381 gives there. -/
def Lcd.placed (d : Lcd) (line dot : Nat) : Lcd :=
  { d with ly := BitVec.ofNat 8 line, dot := dot, mode := modeAt line dot }

section
variable {line dot : Nat}

theorem modeAt_vblank (h : 144 ≤ line) : modeAt line dot = .vblank := if_pos h

theorem modeAt_searchOam (h : line < 144) (hdot : dot < 80) : modeAt line dot = .searchOam := by
  simp (disch := omega) only [modeAt, if_pos, if_neg]

theorem modeAt_transfer (h : line < 144) (hdot : 80 ≤ dot ∧ dot < 252) : modeAt line dot = .transfer := by
  simp (disch := omega) only [modeAt, if_pos, if_neg]

theorem modeAt_hblank (h : line < 144) (hdot : 252 ≤ dot) : modeAt line dot = .hblank := by
  simp (disch := omega) only [modeAt, if_neg]

theorem modeAt_cases (line dot : Nat) :
    (144 ≤ line ∧ modeAt line dot = .vblank) ∨
    (line < 144 ∧ dot < 80 ∧ modeAt line dot = .searchOam) ∨
    (line < 144 ∧ (80 ≤ dot ∧ dot < 252) ∧ modeAt line dot = .transfer) ∨
    (line < 144 ∧ 252 ≤ dot ∧ modeAt line dot = .hblank) := by
  obtain hv | hv := Nat.lt_or_ge line 144
  · obtain hs | ht | hb : dot < 80 ∨ (80 ≤ dot ∧ dot < 252) ∨ 252 ≤ dot := by omega
    · exact .inr (.inl ⟨hv, hs, modeAt_searchOam hv hs⟩)
    · exact .inr (.inr (.inl ⟨hv, ht, modeAt_transfer hv ht⟩))
    · exact .inr (.inr (.inr ⟨hv, hb, modeAt_hblank hv hb⟩))
  · exact .inl ⟨hv, modeAt_vblank hv⟩

/-- Before the last dot of a mode the next dot is in the same mode. -/
theorem modeAt_succ (h : dot ≠ (modeAt line dot).lastDot) : modeAt line (dot + 1) = modeAt line dot := by
  obtain ⟨hv, hm⟩ | ⟨hv, hs, hm⟩ | ⟨hv, ht, hm⟩ | ⟨hv, hb, hm⟩ := modeAt_cases line dot
  all_goals rw [hm, Mode.lastDot] at h; rw [hm]
  · exact modeAt_vblank hv
  · exact modeAt_searchOam hv (by omega)
  · exact modeAt_transfer hv (by omega)
  · exact modeAt_hblank hv (by omega)

/-- Within a line a mode ends at dot 79 or 251 of a visible one (R381). -/
theorem eq_of_eq_lastDot (hdot : dot < 455) (h : dot = (modeAt line dot).lastDot) :
    line < 144 ∧ (dot = 79 ∨ dot = 251) := by
  obtain ⟨_, hm⟩ | ⟨hv, _, hm⟩ | ⟨hv, _, hm⟩ | ⟨_, _, hm⟩ := modeAt_cases line dot
  all_goals rw [hm, Mode.lastDot] at h
  · exact absurd h hdot.ne
  · exact ⟨hv, .inl h⟩
  · exact ⟨hv, .inr h⟩
  · exact absurd h hdot.ne

theorem Lcd.placed_ly_toNat (h : line < 154) : (d.placed line dot).ly.toNat = line := Nat.mod_eq_of_lt (by omega)

/-- Within a line a tick moves one dot on. -/
theorem Lcd.placed_tick_within (he : d.enabled = true) (hdot : dot < 455) :
    (d.placed line dot).tick.1 = d.placed line (dot + 1) := by
  have hen : (d.placed line dot).enabled = true := he
  by_cases h : dot = (modeAt line dot).lastDot
  · obtain ⟨hv, rfl | rfl⟩ := eq_of_eq_lastDot hdot h
    · rw [Lcd.tick_endSearchOam hen (modeAt_searchOam hv (by decide)) rfl]
      simp only [Lcd.placed, modeAt_transfer hv (by decide : 80 ≤ 79 + 1 ∧ 79 + 1 < 252)]
    · rw [Lcd.tick_endTransfer hen (modeAt_transfer hv (by decide)) rfl]
      simp only [Lcd.placed, modeAt_hblank hv (by decide : 252 ≤ 251 + 1)]
  · rw [Lcd.tick_within hen h]
    simp only [Lcd.placed, modeAt_succ h]

/-- The last dot of a line leads to the first of the next one, or of a new frame. -/
theorem Lcd.placed_tick_end (he : d.enabled = true) (hline : line < 154) :
    (d.placed line 455).tick.1 = d.placed ((line + 1) % 154) 0 := by
  have hen : (d.placed line 455).enabled = true := he
  have hly : (d.placed line 455).ly.toNat = line := Lcd.placed_ly_toNat hline
  have hnext : (d.placed line 455).ly + 1 = BitVec.ofNat 8 (line + 1) := (BitVec.ofNat_add line 1).symm
  obtain hv | rfl | ⟨hv, hl⟩ | rfl :
      line < 143 ∨ line = 143 ∨ (144 ≤ line ∧ line < 153) ∨ line = 153 := by omega
  · have hm : (d.placed line 455).mode = .hblank := modeAt_hblank (by omega) (by decide)
    rw [Lcd.tick_endHblank hen hm rfl, Lcd.endVisibleLine_next (by bv_omega), hnext, Nat.mod_eq_of_lt (by omega)]
    simp only [Lcd.placed, modeAt_searchOam (show line + 1 < 144 by omega) (Nat.zero_lt_succ 79)]
  · rw [Lcd.tick_endHblank hen rfl rfl, Lcd.endVisibleLine_last rfl]
    rfl
  · have hm : (d.placed line 455).mode = .vblank := modeAt_vblank hv
    rw [Lcd.tick_endVblank hen hm rfl, Lcd.endVblankLine_next (by bv_omega), hnext, Nat.mod_eq_of_lt (by omega)]
    simp only [Lcd.placed, modeAt_vblank hv, modeAt_vblank (Nat.le_succ_of_le hv)]
  · rw [Lcd.tick_endVblank hen rfl rfl, Lcd.endVblankLine_last rfl]
    rfl

end

/-- From the start of line 0, where the display is after `n` ticks. -/
theorem Lcd.placed_ticks (he : d.enabled = true) (n : Nat) :
    ((d.placed 0 0).ticks n).1 = d.placed (n / 456 % 154) (n % 456) := by
  induction n with
  | zero => rfl
  | succ n ih =>
    rw [Lcd.ticks_add n 1]
    simp only [Lcd.ticks, ih]
    obtain hdot | hdot : n % 456 < 455 ∨ n % 456 = 455 := by omega
    · rw [Lcd.placed_tick_within he hdot]
      congr 1 <;> omega
    · rw [hdot, Lcd.placed_tick_end he (Nat.mod_lt _ (by decide))]
      congr 1 <;> omega

theorem Lcd.eq_placed (hly : d.ly = 0) (hdot : d.dot = 0) (hm : d.mode = .searchOam) : d = d.placed 0 0 := by
  obtain ⟨⟩ := d
  cases hly
  cases hdot
  cases hm
  rfl

theorem Lcd.ticks_eq_placed (he : d.enabled = true) (hly : d.ly = 0) (hdot : d.dot = 0) (hm : d.mode = .searchOam)
    (n : Nat) : (d.ticks n).1 = d.placed (n / 456 % 154) (n % 456) := by
  have hplaced := Lcd.placed_ticks he n
  rwa [← Lcd.eq_placed hly hdot hm] at hplaced

/-- Settles O48: each tick moves the display one dot on (`Lcd.placed_ticks`). -/
theorem frameStructure : Obligations.FrameStructure :=
  fun _ n he hly hdot hm => Lcd.ticks_eq_placed he hly hdot hm n

/-! ### The requests -/

theorem Lcd.statIf_vblank (d : Lcd) (i : Nat) : (d.statIf i).getLsbD 0 = false := by
  unfold Lcd.statIf
  split <;> rfl

theorem Lcd.statIf_stat (d : Lcd) (i : Nat) : (d.statIf i).getLsbD 1 = d.statEn.getLsbD i := by
  unfold Lcd.statIf
  split
  · rename_i h
    exact h.symm
  · rename_i h
    exact (Bool.eq_false_iff.mpr h).symm

theorem Lcd.coincidence_vblank (d : Lcd) : d.coincidence.getLsbD 0 = false := by
  unfold Lcd.coincidence
  split
  · exact d.statIf_vblank 3
  · rfl

theorem Lcd.coincidence_stat (d : Lcd) :
    d.coincidence.getLsbD 1 = (d.statEn.getLsbD 3 && decide (d.ly = d.lyc)) := by
  unfold Lcd.coincidence
  split
  · rename_i h
    rw [Lcd.statIf_stat, decide_eq_true h, Bool.and_true]
  · rename_i h
    rw [decide_eq_false h, Bool.and_false]
    rfl

/-- The vblank request is raised at the end of the last visible line alone (R390). -/
theorem Lcd.tick_vblank (he : d.enabled = true) :
    d.tick.2.getLsbD 0 = true ↔ d.mode = .hblank ∧ d.dot = 455 ∧ d.ly = 143 := by
  obtain ⟨hne, ht⟩ | ⟨hm, ht⟩ | ⟨hm, ht⟩ | ⟨hm, hdot, ht⟩ | ⟨hm, hdot, ht⟩ := Lcd.tick_cases he
  · have hend : d.mode = .hblank → d.dot ≠ 455 := fun hm => by rwa [hm] at hne
    simpa [ht] using fun hm hdot => absurd hdot (hend hm)
  · simp [ht, hm]
  · simp only [ht, Lcd.statIf_vblank, hm]
    simp
  · by_cases hly : d.ly = 143#8
    · simp only [ht, Lcd.endVisibleLine_last hly, BitVec.getLsbD_or, Lcd.statIf_vblank, Lcd.coincidence_vblank]
      simp [hm, hdot, hly, vblankRequest]
    · simp only [ht, Lcd.endVisibleLine_next hly, BitVec.getLsbD_or, Lcd.statIf_vblank, Lcd.coincidence_vblank]
      simp [hly]
  · by_cases hly : d.ly = 153#8
    · simp only [ht, Lcd.endVblankLine_last hly, BitVec.getLsbD_or, Lcd.statIf_vblank, Lcd.coincidence_vblank]
      simp [hm]
    · simp only [ht, Lcd.endVblankLine_next hly, Lcd.coincidence_vblank]
      simp [hm]

/-- Settles O49: the tick from line 143 and dot 455 raises the request (`Lcd.tick_vblank`), and there the display
is once a frame (`Lcd.ticks_eq_placed`). -/
theorem vblankOncePerFrame : Obligations.VblankOncePerFrame := by
  intro d n he hly hdot hm
  have hen : (d.placed (n / 456 % 154) (n % 456)).enabled = true := he
  rw [Lcd.ticks_eq_placed he hly hdot hm n, Lcd.tick_vblank hen]
  constructor
  · rintro ⟨_, hdot, hly⟩
    have hline : n / 456 % 154 = 143 :=
      (Lcd.placed_ly_toNat (Nat.mod_lt _ (by decide))).symm.trans (congrArg BitVec.toNat hly)
    have hlast : n % 456 = 455 := hdot
    omega
  · intro hn
    have hline : n / 456 % 154 = 143 := by omega
    have hdot : n % 456 = 455 := by omega
    rw [hline, hdot]
    exact ⟨rfl, rfl, rfl⟩

/-- A display that is off does not tick (R382). -/
theorem Lcd.ticks_off (h : d.enabled = false) (n : Nat) : d.ticks n = (d, 0) := by
  induction n with
  | zero => rfl
  | succ n ih => simp [Lcd.ticks, Lcd.tick_off h, ih]

/-- An event that raises the STAT request, its cause enabled: `d` before the tick, `e` after it (R394). -/
def Lcd.StatEvent (d e : Lcd) : Prop :=
  (d.statEn.getLsbD 0 = true ∧ d.mode = .transfer ∧ e.mode = .hblank) ∨
  (d.statEn.getLsbD 1 = true ∧ d.ly ≠ 144 ∧ e.ly = 144) ∨
  (d.statEn.getLsbD 2 = true ∧ d.mode ≠ .searchOam ∧ e.mode = .searchOam) ∨
  (d.statEn.getLsbD 3 = true ∧ d.ly ≠ e.ly ∧ e.ly = d.lyc)

/-- No visible line is line 144, and none begins in HBlank (R389, R390). -/
theorem Lcd.endVisibleLine_stat (hm : d.mode = .hblank) (hly : d.ly.toNat < 144) :
    d.endVisibleLine.2.getLsbD 1 = true ↔ d.StatEvent d.endVisibleLine.1 := by
  by_cases hlast : d.ly = 143#8
  · simp only [Lcd.endVisibleLine_last hlast, BitVec.getLsbD_or, Lcd.statIf_stat, Lcd.coincidence_stat,
      Lcd.StatEvent]
    simp [hm, hlast, vblankRequest, or_comm]
  · have hnext : d.ly + 1#8 ≠ 144#8 := by bv_omega
    simp only [Lcd.endVisibleLine_next hlast, BitVec.getLsbD_or, Lcd.statIf_stat, Lcd.coincidence_stat,
      Lcd.StatEvent]
    simp [hm, hnext, or_comm]

/-- A line of VBlank leads to no line 144, and to SearchOAM from line 153 alone (R391). -/
theorem Lcd.endVblankLine_stat (hm : d.mode = .vblank) (hly : 144 ≤ d.ly.toNat ∧ d.ly.toNat ≤ 153) :
    d.endVblankLine.2.getLsbD 1 = true ↔ d.StatEvent d.endVblankLine.1 := by
  by_cases hlast : d.ly = 153#8
  · simp only [Lcd.endVblankLine_last hlast, BitVec.getLsbD_or, Lcd.statIf_stat, Lcd.coincidence_stat,
      Lcd.StatEvent]
    simp [hm, hlast]
  · have hnext : d.ly + 1#8 ≠ 144#8 := by bv_omega
    simp only [Lcd.endVblankLine_next hlast, Lcd.coincidence_stat, Lcd.StatEvent]
    simp [hm, hnext]

/-- Settles O50: an off display by `Lcd.ticks_off`; of the ticks of one that is on, those that end Transfer or a
line raise what they enter. -/
theorem displayRequests : Obligations.DisplayRequests := by
  refine ⟨fun d n hoff => Lcd.ticks_off hoff n, fun d hinv he => ?_⟩
  suffices d.tick.2.getLsbD 1 = true ↔ d.StatEvent d.tick.1 from this
  obtain ⟨_, ht⟩ | ⟨hm, ht⟩ | ⟨hm, ht⟩ | ⟨hm, _, ht⟩ | ⟨hm, _, ht⟩ := Lcd.tick_cases he
  · have hstays : d.mode = .transfer → d.mode ≠ .hblank := fun hm => by simp [hm]
    simpa [ht, Lcd.StatEvent] using fun _ => hstays
  · simp [ht, hm, Lcd.StatEvent]
  · simp only [ht, Lcd.statIf_stat, Lcd.StatEvent]
    simp [hm]
  · rw [ht]
    exact Lcd.endVisibleLine_stat hm (hinv.visible (by simp [hm]))
  · rw [ht]
    exact Lcd.endVblankLine_stat hm ⟨hinv.vblank.mp hm, hinv.ly⟩

end Sys2Proof.Machine
end

/-! ## Interrupt dispatch (60_exceptions.md R322, R326) -/

section
namespace Sys2Proof.Machine

variable {s : State} {n : Nat}

/-- The lowest-numbered request is the set bit with none set below it. -/
theorem lowestRequest_eq {p : BitVec 5} (hn : p.getLsbD n = true) (hbelow : ∀ m, m < n → p.getLsbD m = false) :
    lowestRequest p = n := by
  have hlt : n < 5 := BitVec.lt_of_getLsbD hn
  interval_cases n <;> simp only [lowestRequest, hn, hbelow, Nat.lt_add_one, Nat.reduceLT, if_true, if_false,
    Bool.false_eq_true]

/-- `Push16` under other registers: of them the stores see SP alone. -/
theorem State.push16_setCpu (s : State) (c : Cpu) (v : Word) :
    ({ s with cpu := c } : State).push16 v =
      { (s.busWrite (c.sp - 1) (hiByte v)).busWrite (c.sp - 2) (loByte v) with
        cpu := { c with sp := c.sp - 2 } } := by
  have hfirst := s.busWrite_setCpu (c.sp - 1) (hiByte v) c s.cost s.opAddr s.powered
  have hsecond := (s.busWrite (c.sp - 1) (hiByte v)).busWrite_setCpu (c.sp - 2) (loByte v) c s.cost s.opAddr s.powered
  simp only [State.push16_eq, hfirst, hsecond, State.busWrite_cost, State.busWrite_opAddr, State.busWrite_powered]

/-- `InterruptDispatch(n)` under the registers `c`: the request is cleared, PC is pushed, and four registers are
written. -/
theorem State.takeInterrupt_setCpu (s : State) (c : Cpu) (n : Nat) :
    ({ s with cpu := c } : State).takeInterrupt n =
      { ((s.clearRequest n).busWrite (c.sp - 1) (hiByte c.pc)).busWrite (c.sp - 2) (loByte c.pc) with
        cpu := { c with pc := interruptVector n, sp := c.sp - 2, ime := false, eiPending := false } } :=
  congrArg (State.setPc · (interruptVector n))
    ((s.clearRequest n).push16_setCpu { c with ime := false, eiPending := false } c.pc)

/-- A running machine with IME 1 and a request pending takes the lowest-numbered one, halted or not. -/
theorem step_dispatch (hp : s.powered = true) (ha : s.cfg.accepted = true) (ho : s.env.powerOffNow = false)
    (hime : s.cpu.ime = true) (hpend : s.pending ≠ 0) :
    step s = .next (((s.setHalted false).takeInterrupt (lowestRequest s.pending)).report 20).advance := by
  have hwake : s.wake = s.setHalted false := State.wake_eq fun _ => hpend
  rw [step_running hp ha ho, State.cpuPhase, hwake]
  have hd : (s.setHalted false).cpu.ime = true ∧ (s.setHalted false).pending ≠ 0 := ⟨hime, hpend⟩
  rw [State.awakePhase, if_pos hd]
  rfl

/-- Settles O53: the step takes the lowest-numbered request (`step_dispatch`), which is two writes and a change of
registers (`State.takeInterrupt_setCpu`). -/
theorem interruptDispatch : Obligations.InterruptDispatch := by
  intro s n hp ha ho hime hn hbelow u w
  have hlow : lowestRequest s.pending = n := lowestRequest_eq hn hbelow
  have hpend : s.pending ≠ 0 := by
    intro hzero
    have hbit : s.pending.getLsbD n = true := hn
    simp [hzero] at hbit
  have htaken := s.takeInterrupt_setCpu { s.cpu with halted := false } n
  rw [step_dispatch hp ha ho hime hpend, hlow]
  exact congrArg (fun t : State => (.next (t.report 20).advance : Result)) htaken

end Sys2Proof.Machine
end

/-! ## The devices over a step (60_exceptions.md R323, R330) -/

section
namespace Sys2Proof.Machine

variable {s t : State}

/-- A CPU phase costs what an instruction may: 4 to 24 cycles, a multiple of 4 (70_reset_and_hazards.md R486). -/
theorem State.cpuPhase_cost (h : s.cpuPhase = .next t) : t.cost ∈ costs := by
  obtain ⟨_, _, hd⟩ | ⟨_, _, hi⟩ | ⟨_, _, he⟩ := s.wake.awakePhase_cases
  · cases hd.symm.trans h
    exact .tail _ (.tail _ (.tail _ (.tail _ (.head _))))
  · cases hi.symm.trans h
    exact .head _
  · exact (exec_answers (he.symm.trans h)).cost

theorem range_of_mem_costs : ∀ n ∈ costs, 4 ≤ n ∧ n ≤ 24 ∧ n % 4 = 0 := by decide

/-- The inputs of the steps to come are out of reach of reads and stores. -/
theorem stable_stepInputs (inputs : List StepInput) (k : Nat) :
    Stable fun s => s.env.steps = inputs ∧ s.env.stepCount = k where
  cpu _ _ _ h := h
  requests _ h := h
  read _ h := by simpa using h
  write _ _ h := by simpa using h

/-- The external requests depend on the inputs of the steps to come and the step index alone (log 1). -/
theorem Env.extIrq_congr {e f : Env} (hsteps : e.steps = f.steps) (hcount : e.stepCount = f.stepCount) :
    e.extIrq = f.extIrq := by
  simp only [Env.extIrq, Env.stepInput, hsteps, hcount]

/-- What the external requests are made of. -/
theorem requests_of_bits : ∀ joypad serial : Bool,
    let r := BitVec.ofBool joypad ++ BitVec.ofBool serial ++ 0#3
    r.extractLsb' 0 3 = 0 ∧ r.getLsbD 3 = serial ∧ r.getLsbD 4 = joypad := by decide

/-! No device inside the block raises bit 3 or bit 4 (R323). -/

theorem Lcd.statIf_external (d : Lcd) (i : Nat) : (d.statIf i).extractLsb' 3 2 = 0#2 := by
  unfold Lcd.statIf
  split <;> rfl

theorem Lcd.coincidence_external (d : Lcd) : d.coincidence.extractLsb' 3 2 = 0#2 := by
  unfold Lcd.coincidence
  split
  · exact d.statIf_external 3
  · rfl

theorem Lcd.endVisibleLine_external (d : Lcd) : d.endVisibleLine.2.extractLsb' 3 2 = 0#2 := by
  by_cases h : d.ly = 143#8
  · simp [Lcd.endVisibleLine_last h, BitVec.extractLsb'_or, Lcd.statIf_external, Lcd.coincidence_external,
      vblankRequest]
  · simp [Lcd.endVisibleLine_next h, BitVec.extractLsb'_or, Lcd.statIf_external, Lcd.coincidence_external]

theorem Lcd.endVblankLine_external (d : Lcd) : d.endVblankLine.2.extractLsb' 3 2 = 0#2 := by
  by_cases h : d.ly = 153#8
  · simp [Lcd.endVblankLine_last h, BitVec.extractLsb'_or, Lcd.statIf_external, Lcd.coincidence_external]
  · simp [Lcd.endVblankLine_next h, Lcd.coincidence_external]

theorem Lcd.tick_external (d : Lcd) : d.tick.2.extractLsb' 3 2 = 0#2 := by
  cases he : d.enabled with
  | false =>
    simp [Lcd.tick_off he]
  | true =>
    obtain ⟨_, ht⟩ | ⟨_, ht⟩ | ⟨_, ht⟩ | ⟨_, _, ht⟩ | ⟨_, _, ht⟩ := Lcd.tick_cases he
    all_goals rw [ht]
    · simp
    · simp
    · exact d.statIf_external 0
    · exact d.endVisibleLine_external
    · exact d.endVblankLine_external

theorem Lcd.ticks_external (d : Lcd) (n : Nat) : (d.ticks n).2.extractLsb' 3 2 = 0#2 := by
  induction n generalizing d with
  | zero => simp [Lcd.ticks]
  | succ n ih => simp [Lcd.ticks, BitVec.extractLsb'_or, d.tick_external, ih]

theorem Timer.tick_external (t : Timer) : t.tick.2.extractLsb' 3 2 = 0#2 := by
  obtain h | h := t.tick_request <;> rw [h] <;> rfl

theorem Timer.ticks_external (t : Timer) (n : Nat) : (t.ticks n).2.extractLsb' 3 2 = 0#2 := by
  induction n generalizing t with
  | zero => simp [Timer.ticks]
  | succ n ih => simp [Timer.ticks, BitVec.extractLsb'_or, t.tick_external, ih]

/-- Settles O55: the CPU phase's cost is one of `costs`, and it leaves the environment's inputs alone
(`stable_stepInputs`). -/
theorem devicesAdvance : Obligations.DevicesAdvance := by
  refine ⟨fun s t ho h => ?_, fun e => ?_, fun d t n => ?_⟩
  · obtain ⟨_, _, ⟨hoff, _⟩ | ⟨_, u, hu, rfl⟩⟩ := step_next_cases h
    · cases ho.symm.trans hoff
    obtain ⟨hlo, hhi, hfour⟩ := range_of_mem_costs _ (State.cpuPhase_cost hu)
    obtain ⟨hsteps, hcount⟩ := (stable_stepInputs s.env.steps s.env.stepCount).cpuPhase hu ⟨rfl, rfl⟩
    refine ⟨u, hu, hlo, hhi, hfour, ?_⟩
    rw [State.advance, Env.tookStep, Env.extIrq_congr hsteps hcount, hsteps, hcount]
  · obtain ⟨hlow, hserial, hjoypad⟩ := requests_of_bits e.stepInput.joypad e.stepInput.serial
    refine ⟨hlow, fun i rest hlist => ?_⟩
    have hi : e.stepInput = i := by rw [Env.stepInput, hlist]
    rw [← hi]
    exact ⟨rfl, hserial, hjoypad⟩
  · simp [BitVec.extractLsb'_or, d.ticks_external, t.ticks_external]

end Sys2Proof.Machine
end

/-! ## The cartridge (63_cartridge.md R421 to R454) -/

section
namespace Sys2Proof.Machine

variable (s : State) {a : Word} {k : Nat}

/-! ### Its two windows -/

theorem State.busRead_cartRom (h : a.toNat < 0x8000) :
    s.busRead a = s.cfg.rom.read (romOffset s.cfg s.cart a.toNat) := by
  rw [State.busRead, regionOf_cartRom h]

theorem State.busWrite_cartRom (h : a.toNat < 0x8000) (v : Byte) : s.busWrite a v = s.controlWrite a.toNat v := by
  rw [State.busWrite, regionOf_cartRom h]

theorem State.busRead_cartRam (h : 0xA000 ≤ a.toNat ∧ a.toNat < 0xC000) :
    s.busRead a = s.readExt (a.toNat - 0xA000) := by
  rw [State.busRead, regionOf_cartRam h]

theorem State.busWrite_cartRam (h : 0xA000 ≤ a.toNat ∧ a.toNat < 0xC000) (v : Byte) :
    s.busWrite a v = s.writeExt (a.toNat - 0xA000) v := by
  rw [State.busWrite, regionOf_cartRam h]

/-- The window where it shows a byte of RAM. -/
theorem State.window_cram (h : 0xA000 ≤ a.toNat ∧ a.toNat < 0xC000)
    (hx : extTarget s.cfg s.cart (a.toNat - 0xA000) = .cram k) (v : Byte) :
    s.busRead a = s.cram.read k ∧ s.busWrite a v = { s with cram := s.cram.write k v } := by
  rw [s.busRead_cartRam h, s.busWrite_cartRam h, State.readExt, State.writeExt, hx]
  exact ⟨rfl, rfl⟩

/-- The window where it shows a clock register. -/
theorem State.window_clock (h : 0xA000 ≤ a.toNat ∧ a.toNat < 0xC000)
    (hx : extTarget s.cfg s.cart (a.toNat - 0xA000) = .clock k) (v : Byte) :
    s.busRead a = s.cart.rtc.get k ∧
      s.busWrite a v = { s with cart := { s.cart with rtc := s.cart.rtc.set k v } } := by
  rw [s.busRead_cartRam h, s.busWrite_cartRam h, State.readExt, State.writeExt, hx]
  exact ⟨rfl, rfl⟩

/-- The window where it shows nothing. -/
theorem State.window_nothing (h : 0xA000 ≤ a.toNat ∧ a.toNat < 0xC000)
    (hx : extTarget s.cfg s.cart (a.toNat - 0xA000) = .nothing) (v : Byte) :
    s.busRead a = 0xFF ∧ s.busWrite a v = s := by
  rw [s.busRead_cartRam h, s.busWrite_cartRam h, State.readExt, State.writeExt, hx]
  exact ⟨rfl, rfl⟩

theorem cramTarget_absent {cfg : Config} (h : cfg.ramSize = 0) (b off : Nat) : cramTarget cfg b off = .nothing :=
  if_pos h

theorem cramTarget_present {cfg : Config} (h : cfg.ramSize ≠ 0) (b off : Nat) :
    cramTarget cfg b off = .cram ((b * 0x2000 + off) % cfg.ramSize) :=
  if_neg h

/-- A window that `ramEn` gates in front of one RAM bank. -/
theorem State.window_gated {b : Nat} (h : 0xA000 ≤ a.toNat ∧ a.toNat < 0xC000)
    (hx : extTarget s.cfg s.cart (a.toNat - 0xA000) =
      if s.cart.ramEn then cramTarget s.cfg b (a.toNat - 0xA000) else .nothing) (v : Byte) :
    (s.cart.ramEn = true ∧ s.cfg.ramSize ≠ 0 →
      s.busRead a = s.cram.read ((b * 0x2000 + (a.toNat - 0xA000)) % s.cfg.ramSize) ∧
      s.busWrite a v = { s with cram := s.cram.write ((b * 0x2000 + (a.toNat - 0xA000)) % s.cfg.ramSize) v }) ∧
    (s.cart.ramEn = false ∨ s.cfg.ramSize = 0 → s.busRead a = 0xFF ∧ s.busWrite a v = s) := by
  refine ⟨fun ⟨hen, hsize⟩ => s.window_cram h ?_ v, fun hoff => s.window_nothing h ?_ v⟩
  · rw [hx, if_pos hen, cramTarget_present hsize]
  · rw [hx]
    obtain hdis | hsize := hoff
    · rw [if_neg (by simp [hdis])]
    · rw [cramTarget_absent hsize, ite_self]

/-! ### No bank controller (R422, R424, R425) -/

/-- Settles O41: the windows by the region map, and what no bank controller makes of them. -/
theorem romWindows : Obligations.RomWindows := by
  refine ⟨fun s a v h => ⟨fun hlo => ?_, fun hhi => ?_, s.busWrite_cfg a v⟩,
    fun s a v hk => ⟨?_, fun h => ?_, fun h => ?_⟩⟩
  · rw [s.busRead_cartRom h, romOffset, if_pos hlo]
  · rw [s.busRead_cartRom h, romOffset, if_neg (by omega), Config.nBanks]
  · rw [hk, Cart.currentRomBank]
  · rw [s.busWrite_cartRom h, State.controlWrite, hk]
  · have hx : extTarget s.cfg s.cart (a.toNat - 0xA000) = cramTarget s.cfg 0 (a.toNat - 0xA000) := by
      rw [extTarget, hk]
    refine ⟨fun hsize => s.window_nothing h (hx.trans (cramTarget_absent hsize _ _)) v, fun hsize => ?_⟩
    have hram := s.window_cram h (hx.trans (cramTarget_present hsize _ _)) v
    rwa [Nat.zero_mul, Nat.zero_add] at hram

/-! ### Fields of the byte written -/

theorem enablesRam_eq : ∀ v : Byte, enablesRam v = decide (v.toNat % 16 = 0xA) := by decide

theorem mbc1Bank_eq : ∀ v : Byte, mbc1Bank v = BitVec.ofNat 5 (if v.toNat % 32 = 0 then 1 else v.toNat % 32) := by
  decide

theorem mbc3Bank_eq : ∀ v : Byte, mbc3Bank v = BitVec.ofNat 9 (if v.toNat % 128 = 0 then 1 else v.toNat % 128) := by
  decide

theorem lowTwo_eq : ∀ v : Byte, v.extractLsb' 0 2 = BitVec.ofNat 2 (v.toNat % 4) := by decide

theorem lowFour_eq : ∀ v : Byte, v.extractLsb' 0 4 = BitVec.ofNat 4 (v.toNat % 16) := by decide

theorem lowBit_eq : ∀ v : Byte, v.getLsbD 0 = decide (v.toNat % 2 = 1) := by decide

theorem append_toNat {m n : Nat} (hi : BitVec m) (lo : BitVec n) : (hi ++ lo).toNat = hi.toNat * 2 ^ n + lo.toNat := by
  rw [BitVec.toNat_append, Nat.shiftLeft_eq, Nat.mul_comm, ← Nat.two_pow_add_eq_or_of_lt lo.isLt]

/-- The low eight bits of MBC5's bank number written (R449). -/
theorem mbc5Bank_low (bank : BitVec 9) (v : Byte) :
    bank.extractLsb' 8 1 ++ v = BitVec.ofNat 9 (bank.toNat / 256 * 256 + v.toNat) := by
  have hbank := bank.isLt
  have hv := v.isLt
  apply BitVec.eq_of_toNat_eq
  rw [append_toNat, BitVec.extractLsb'_toNat, Nat.shiftRight_eq_div_pow, BitVec.toNat_ofNat]
  omega

/-- The ninth bit of MBC5's bank number written (R450). -/
theorem mbc5Bank_high (bank : BitVec 9) (v : Byte) :
    v.extractLsb' 0 1 ++ bank.extractLsb' 0 8 = BitVec.ofNat 9 (v.toNat % 2 * 256 + bank.toNat % 256) := by
  apply BitVec.eq_of_toNat_eq
  rw [append_toNat, BitVec.extractLsb'_toNat, BitVec.extractLsb'_toNat, BitVec.toNat_ofNat]
  simp only [Nat.shiftRight_zero]
  omega

/-! ### MBC1 (R426 to R431, R454) -/

variable {s}

theorem State.busWrite_mbc1 (hk : s.cfg.kind = .mbc1) (h : a.toNat < 0x8000) (v : Byte) :
    s.busWrite a v = { s with cart := s.cart.controlMbc1 a.toNat v } := by
  rw [s.busWrite_cartRom h, State.controlWrite, hk]

/-- The ROM bank control write (R427). -/
theorem State.busWrite_mbc1_bank1 (hk : s.cfg.kind = .mbc1) (h : 0x2000 ≤ a.toNat ∧ a.toNat < 0x4000) (v : Byte) :
    s.busWrite a v = { s with cart := { s.cart with
      bank1 := BitVec.ofNat 5 (if v.toNat % 32 = 0 then 1 else v.toNat % 32) } } := by
  rw [State.busWrite_mbc1 hk (by omega), Cart.controlMbc1, if_neg (by omega), if_pos h.2, mbc1Bank_eq]

theorem Cart.currentRomBank_mbc1 (c : Cart) :
    c.currentRomBank .mbc1 = if c.mbc1Mode then c.bank1.toNat else c.bank2.toNat * 32 + c.bank1.toNat := by
  simp only [Cart.currentRomBank, append_toNat, Nat.reducePow]

/-- Settles O42: the control ranges one by one, and a window that `ramEn` gates. -/
theorem mbc1 : Obligations.Mbc1 := by
  refine ⟨fun s a v hk => ⟨fun h => ?_, fun h => ?_, fun h => ?_, fun h => ?_, ?_⟩, fun s a v hk hlo hhi => ?_⟩
  · rw [State.busWrite_mbc1 hk (by omega), Cart.controlMbc1, if_pos h, enablesRam_eq]
  · exact State.busWrite_mbc1_bank1 hk h v
  · rw [State.busWrite_mbc1 hk (by omega), Cart.controlMbc1, if_neg (by omega), if_neg (by omega), if_pos h.2,
      lowTwo_eq]
  · rw [State.busWrite_mbc1 hk h.2, Cart.controlMbc1, if_neg (by omega), if_neg (by omega), if_neg (by omega),
      lowBit_eq]
  · rw [hk, Cart.currentRomBank_mbc1]
  · exact s.window_gated ⟨hlo, hhi⟩ (by rw [extTarget, hk]) v

/-- Settles O43: both writes set `bank1` to 1 (`State.busWrite_mbc1_bank1`), and the bank shown is then 1. -/
theorem mbc1Quirk : Obligations.Mbc1Quirk := by
  intro s a v hk hlo hhi hv
  have hwrite : s.busWrite a v = { s with cart := { s.cart with bank1 := 1 } } := by
    rw [State.busWrite_mbc1_bank1 hk ⟨hlo, hhi⟩, hv]
    rfl
  refine ⟨hwrite.trans (State.busWrite_mbc1_bank1 hk ⟨hlo, hhi⟩ 1).symm, fun hmode hbank2 => ?_⟩
  have hbank : { s.cart with bank1 := 1 }.currentRomBank s.cfg.kind = 1 := by
    rw [hk, Cart.currentRomBank_mbc1]
    simp [hmode, hbank2]
  have hoff : (0x4000 : Word).toNat - 0x4000 = 0 := by decide
  rw [hwrite, State.busRead_cartRom _ (by decide), romOffset, if_neg (by decide)]
  simp only [hbank, hoff, Nat.add_zero]

/-! ### MBC3 (R440 to R446) -/

theorem State.busWrite_mbc3 (hk : s.cfg.kind = .mbc3) (h : a.toNat < 0x6000) (v : Byte) :
    s.busWrite a v = { s with cart := s.cart.controlMbc3 a.toNat v } := by
  rw [s.busWrite_cartRom (by omega), State.controlWrite, hk]
  exact if_pos h

theorem State.busWrite_mbc3_latch (hk : s.cfg.kind = .mbc3) (h : 0x6000 ≤ a.toNat ∧ a.toNat < 0x8000) (v : Byte) :
    s.busWrite a v = s.latchClock v := by
  rw [s.busWrite_cartRom h.2, State.controlWrite, hk]
  exact if_neg (by omega)

/-- What an MBC3's window shows (R443). -/
theorem extTarget_mbc3 {cfg : Config} (hk : cfg.kind = .mbc3) (c : Cart) (off : Nat) :
    extTarget cfg c off =
      if c.ramEn then
        if c.ramSel.toNat ≤ 3 then cramTarget cfg c.ramSel.toNat off
        else if cfg.hasRtc && 8 ≤ c.ramSel.toNat && c.ramSel.toNat ≤ 0xC then .clock (c.ramSel.toNat - 8)
        else .nothing
      else .nothing := by
  rw [extTarget, hk]

/-- Settles O44: the control ranges one by one, the latch as `State.latchClock` has it, and what `ramSel` shows. -/
theorem mbc3 : Obligations.Mbc3 := by
  intro s a v hk
  refine ⟨fun h => ?_, fun h => ?_, fun h => ?_, fun h => State.busWrite_mbc3_latch hk h v, ?_, fun h => ?_⟩
  · rw [State.busWrite_mbc3 hk (by omega), Cart.controlMbc3, if_pos h, enablesRam_eq]
  · rw [State.busWrite_mbc3 hk (by omega), Cart.controlMbc3, if_neg (by omega), if_pos h.2, mbc3Bank_eq]
  · rw [State.busWrite_mbc3 hk h.2, Cart.controlMbc3, if_neg (by omega), if_neg (by omega), lowFour_eq]
  · rw [hk, Cart.currentRomBank]
  have hx := extTarget_mbc3 hk s.cart (a.toNat - 0xA000)
  refine ⟨fun ⟨hen, hsel, hsize⟩ => s.window_cram h ?_ v, fun ⟨hen, hrtc, hlo, hhi⟩ => s.window_clock h ?_ v,
    fun hnone => s.window_nothing h ?_ v⟩
  · rw [hx, if_pos hen, if_pos hsel, cramTarget_present hsize]
  · rw [hx, if_pos hen, if_neg (by omega), if_pos (by simp [hrtc, hlo, hhi])]
  · rw [hx]
    obtain hdis | ⟨hsel, hsize⟩ | ⟨hsel, hclock⟩ := hnone
    · rw [if_neg (by simp [hdis])]
    · rw [if_pos hsel, cramTarget_absent hsize, ite_self]
    · have hram : ¬ s.cart.ramSel.toNat ≤ 3 := Nat.not_le.mpr hsel
      have hrtc : ¬ (s.cfg.hasRtc && 8 ≤ s.cart.ramSel.toNat && s.cart.ramSel.toNat ≤ 0xC) = true := by
        simpa [and_assoc] using hclock
      rw [if_neg hram, if_neg hrtc, ite_self]

/-! ### MBC5 (R448 to R452) -/

theorem State.busWrite_mbc5 (hk : s.cfg.kind = .mbc5) (h : a.toNat < 0x8000) (v : Byte) :
    s.busWrite a v = { s with cart := s.cart.controlMbc5 a.toNat v } := by
  rw [s.busWrite_cartRom h, State.controlWrite, hk]

/-- Settles O45: the control ranges one by one, and a window that `ramEn` gates. -/
theorem mbc5 : Obligations.Mbc5 := by
  intro s a v hk
  refine ⟨fun h => ?_, fun h => ?_, fun h => ?_, fun h => ?_, fun h => ?_, ?_, fun h => ?_⟩
  · rw [State.busWrite_mbc5 hk (by omega), Cart.controlMbc5, if_pos h, enablesRam_eq]
  · rw [State.busWrite_mbc5 hk (by omega), Cart.controlMbc5, if_neg (by omega), if_pos h.2, mbc5Bank_low]
  · rw [State.busWrite_mbc5 hk (by omega), Cart.controlMbc5, if_neg (by omega), if_neg (by omega), if_pos h.2,
      mbc5Bank_high]
  · rw [State.busWrite_mbc5 hk (by omega), Cart.controlMbc5, if_neg (by omega), if_neg (by omega),
      if_neg (by omega), if_pos h.2, lowFour_eq]
  · rw [State.busWrite_mbc5 hk h.2, Cart.controlMbc5, if_neg (by omega), if_neg (by omega), if_neg (by omega),
      if_neg (by omega)]
  · rw [hk, Cart.currentRomBank]
  · exact s.window_gated h (by rw [extTarget, hk]) v

end Sys2Proof.Machine
end
